-- ==== Sys2Proof/Word.lean ====
section
/-! DEFINITION. The word widths of the block (spec/00_scope.md R6, spec/30_encoding.md R100). All values are
unsigned and all arithmetic is modulo two to the width, which is what `BitVec` does. -/

namespace Sys2Proof

/-- A register value, a linear address, an operand `OPA` or `OPB` (R20, R70, R100). -/
abbrev Word := BitVec 64

/-- A byte of memory (R70). -/
abbrev Byte := BitVec 8

/-- An exception, interrupt or trap vector (R260, R290). -/
abbrev Vector8 := BitVec 8

/-- A 16-bit error code, selector or port number (R43, R101). -/
abbrev Half := BitVec 16

end Sys2Proof
end

