-- ==== Sys2Proof/Config.lean ====
section
/-! DEFINITION. The configuration record of one instance (spec/00_scope.md R5, decision D9) and the one free value
of the model. The record is immutable: `Machine.State` carries it and no step changes it (log entry 4). -/

namespace Sys2Proof

/-- `CPU_LEVEL` (R5, D9: 3 to 6). `l6` stands for "6 and above" of R137. -/
inductive CpuLevel where
  | l3
  | l4
  | l5
  | l6
  deriving DecidableEq, Repr

/-- The generation as a number, for the comparisons the rules make (R132, R146, R176, R177). -/
def CpuLevel.toNat : CpuLevel → Nat
  | .l3 => 3
  | .l4 => 4
  | .l5 => 5
  | .l6 => 6

/-- The ISA-extension names that the rules mention (R5, R146, R161, R166, R169, R170). -/
inductive Feature where
  | x86_64
  | vme
  | de
  | pse
  | pae
  | mce
  | pge
  | pce
  | fxsr
  | sse
  | umip
  | la57
  | vmx
  | smx
  | fsgsbase
  | pcid
  | xsave
  | smep
  | smap
  | pku
  | cet
  | pks
  | nx
  | svm
  | lmsle
  | ffxsr
  | tce
  | avx
  | mpx
  | avx512
  | xsaves
  | pt
  deriving DecidableEq, Repr

/-- `TRIPLE_FAULT_ACTION` (R5, I2). -/
inductive TripleFaultAction where
  | reset
  | shutdown
  deriving DecidableEq, Repr

/-- `NESTED`: the nested-virtualization extension of the intercept layer (R5). -/
inductive Nested where
  | none
  | vmx
  | svm
  deriving DecidableEq, Repr

/-- The configuration record of R5. The four allow-masks of R5 are derived from it in `Machine/Masks.lean`. -/
structure Config where
  cpuLevel : CpuLevel
  features : List Feature
  phyAddrWidth : Nat
  tripleFaultAction : TripleFaultAction
  cetSupported : Bool
  nested : Nested
  deriving DecidableEq, Repr

/-- Whether an extension is enabled: "feature availability must always be explicit" (R5). -/
def Config.has (c : Config) (f : Feature) : Bool := c.features.contains f

/-- The record is one the spec defines: `PHY_ADDR_WIDTH` in 32..52 and `CET_SUPPORTED = false` (R5, D29). -/
def Config.wf (c : Config) : Bool :=
  decide (32 ≤ c.phyAddrWidth) && decide (c.phyAddrWidth ≤ 52) && !c.cetSupported

/-- The reference profile P0 (R5). -/
def Config.p0 : Config where
  cpuLevel := .l6
  features :=
    [.x86_64, .vme, .de, .pse, .pae, .mce, .pge, .pce, .fxsr, .sse, .pcid, .fsgsbase, .xsave, .avx, .smep, .smap,
      .nx, .svm, .vmx, .ffxsr]
  phyAddrWidth := 40
  tripleFaultAction := .reset
  cetSupported := false
  nested := .none

/-- FREE VALUE (log entry 3). R102: for `VMEXIT` and `ABORT` the word `RES` is "an opaque token naming the payload
recorded in `hist`"; the spec gives no value. The argument is the payload's position in `hist`. -/
opaque Config.resToken : Nat → Word

end Sys2Proof
end

