-- ==== Sys2Proof/Syntax.lean ====
section
/-! DEFINITION. The commands of the block: the triple that stands at the command port (spec/30_encoding.md R100) and
the 58 rows of spec/opcode_table.json, one constructor each, whose arguments are the row's free fields. -/

namespace Sys2Proof

/-- A command as it is issued: `(CMD, OPA, OPB)` (R100). -/
structure Command where
  cmd : BitVec 32
  opa : Word
  opb : Word
  deriving DecidableEq, Repr

/-- One constructor for each row of spec/opcode_table.json. An argument holds exactly the bits that the row leaves
free in `CMD`, or the part of `OPA` and `OPB` that R101 lets the command use. -/
inductive Instr where
  /-- `WRCR0`: propose `v` for CR0 (R131). -/
  | wrcr0 (v : Word)
  /-- `WRCR2`: propose `v` for CR2 (R139). -/
  | wrcr2 (v : Word)
  /-- `WRCR3`: propose `v` for CR3 (R140). -/
  | wrcr3 (v : Word)
  /-- `WRCR4`: propose `v` for CR4 (R145). -/
  | wrcr4 (v : Word)
  /-- `WRCR8`: propose `v` for CR8 (R150). -/
  | wrcr8 (v : Word)
  /-- `WRCR1_UD`: control-register number 1 (R104). -/
  | wrcr1Ud
  /-- `WRCR5_UD`: control-register number 5 (R104). -/
  | wrcr5Ud
  /-- `WRCR6_7_UD`: control-register number 6 + `a` (R104). -/
  | wrcr6_7Ud (a : BitVec 1)
  /-- `WRCR9_UD`: control-register number 9 (R104). -/
  | wrcr9Ud
  /-- `WRCR10_11_UD`: control-register number 10 + `a` (R104). -/
  | wrcr10_11Ud (a : BitVec 1)
  /-- `WRCR12_15_UD`: control-register number 12 + `a` (R104). -/
  | wrcr12_15Ud (a : BitVec 2)
  /-- `RDCR0`: read CR0 (R153). -/
  | rdcr0
  /-- `RDCR2`: read CR2 (R153). -/
  | rdcr2
  /-- `RDCR3`: read CR3 (R153). -/
  | rdcr3
  /-- `RDCR4`: read CR4 (R153). -/
  | rdcr4
  /-- `RDCR8`: read CR8 (R153). -/
  | rdcr8
  /-- `RDCR1_UD`: control-register number 1 (R104). -/
  | rdcr1Ud
  /-- `RDCR5_UD`: control-register number 5 (R104). -/
  | rdcr5Ud
  /-- `RDCR6_7_UD`: control-register number 6 + `a` (R104). -/
  | rdcr6_7Ud (a : BitVec 1)
  /-- `RDCR9_UD`: control-register number 9 (R104). -/
  | rdcr9Ud
  /-- `RDCR10_11_UD`: control-register number 10 + `a` (R104). -/
  | rdcr10_11Ud (a : BitVec 1)
  /-- `RDCR12_15_UD`: control-register number 12 + `a` (R104). -/
  | rdcr12_15Ud (a : BitVec 2)
  /-- `WRDR0`: propose `v` for debug register 0 (R174). -/
  | wrdr0 (v : Word)
  /-- `WRDR1`: propose `v` for debug register 1 (R174). -/
  | wrdr1 (v : Word)
  /-- `WRDR2`: propose `v` for debug register 2 (R174). -/
  | wrdr2 (v : Word)
  /-- `WRDR3`: propose `v` for debug register 3 (R174). -/
  | wrdr3 (v : Word)
  /-- `WRDR4`: propose `v` for debug register 4 (R174). -/
  | wrdr4 (v : Word)
  /-- `WRDR5`: propose `v` for debug register 5 (R174). -/
  | wrdr5 (v : Word)
  /-- `WRDR6`: propose `v` for debug register 6 (R174). -/
  | wrdr6 (v : Word)
  /-- `WRDR7`: propose `v` for debug register 7 (R174). -/
  | wrdr7 (v : Word)
  /-- `WRDR8_15_UD`: debug-register number 8 + `a` (R173). -/
  | wrdr8_15Ud (a : BitVec 3)
  /-- `RDDR0`: read debug register 0 (R178). -/
  | rddr0
  /-- `RDDR1`: read debug register 1 (R178). -/
  | rddr1
  /-- `RDDR2`: read debug register 2 (R178). -/
  | rddr2
  /-- `RDDR3`: read debug register 3 (R178). -/
  | rddr3
  /-- `RDDR4`: read debug register 4 (R178). -/
  | rddr4
  /-- `RDDR5`: read debug register 5 (R178). -/
  | rddr5
  /-- `RDDR6`: read debug register 6 (R178). -/
  | rddr6
  /-- `RDDR7`: read debug register 7 (R178). -/
  | rddr7
  /-- `RDDR8_15_UD`: debug-register number 8 + `a` (R173). -/
  | rddr8_15Ud (a : BitVec 3)
  /-- `WREFER` (R160). -/
  | wrefer (v : Word)
  /-- `RDEFER` (R164). -/
  | rdefer
  /-- `WRXCR`: propose `v` for the extended control register `i` (R165). -/
  | wrxcr (i : BitVec 8) (v : Word)
  /-- `RDXCR` (R168). -/
  | rdxcr (i : BitVec 8)
  /-- `WRXSS` (R169). -/
  | wrxss (v : Word)
  /-- `RDXSS` (R171). -/
  | rdxss
  /-- `CHKIO`: may `width` ports from `port` on be accessed (R190). -/
  | chkio (width : BitVec 8) (out rep : Bool) (port : Half)
  /-- `BOUNDARY`: the per-instruction-boundary pass (R224). -/
  | boundary
  /-- `INHIBIT` (R247). -/
  | inhibit (m : BitVec 2)
  /-- `SIGNAL` (R245). -/
  | signal (e : BitVec 4) (level : Bool)
  /-- `EVMASK` (R246). -/
  | evmask (e : BitVec 4) (mask : Bool)
  /-- `DBGTRAP` (R248). -/
  | dbgtrap (b : Half)
  /-- `ACTIVITY` (R249). -/
  | activity (a : BitVec 3)
  /-- `RAISE`: the core's exception `v`, with the fault address `addr` for vector 14 only (R260). -/
  | raise (v : Vector8) (ec : Half) (addr : Word)
  /-- `INT` (R290). -/
  | int (v : Vector8) (type : BitVec 3) (pushError : Bool) (ec : Half)
  /-- `INSTR_START` (R276). -/
  | instrStart
  /-- `SPEC_RSP` (R277). -/
  | specRsp
  /-- `COMMIT_RSP` (R278). -/
  | commitRsp
  deriving DecidableEq, Repr

end Sys2Proof
end

