-- ==== Sys2Proof/WellFormed.lean ====
section
/-! DEFINITION. Which terms of `Instr` are commands that an encoding can carry, and which well-formed commands R115 (b)
calls bad. The types of the constructors' arguments already bound every field to its width. -/

namespace Sys2Proof

/-- A term that some command word carries. The one relation the types do not express: `RAISE` takes a fault address
from `OPB` for vector 14 only, and for every other vector `OPB` "is reserved and ignored" (R100), so the term holds 0. -/
def Instr.wf : Instr → Bool
  | .raise v _ addr => v == 14#8 || addr == 0#64
  | _ => true

/-- The decodable commands that only a faulty core issues and that end in `ABORT` (R115 (b), R245, R248, R263). -/
def Instr.bad : Instr → Bool
  | .chkio width _ _ _ => !(width == 1#8 || width == 2#8 || width == 4#8)
  | .signal e _ => e == 3#4
  | .dbgtrap b => b &&& 0x1FF0#16 != 0#16
  | .activity a => a == 6#3 || a == 7#3
  | .raise v _ _ => decide (32#8 ≤ v)
  | .int _ type _ _ => type == 1#3 || type == 7#3
  | _ => false

end Sys2Proof
end

