-- ==== Sys2Proof/Decode.lean ====
section
/-! DEFINITION. Decoding a command (spec/30_encoding.md R100 to R106, R115) and, after it, encoding one. The decoder is
total; what it rejects, by name, are the encodings of R115 (b) that lie in no row of spec/opcode_table.json. The bad
commands that do lie in a row (`Instr.bad`) decode, and their meanings answer `ABORT`. -/

namespace Sys2Proof

/-- Why a command word is none of the table's rows (R115 (b)). -/
inductive DecodeError where
  /-- An `OP` that R103 does not list. -/
  | undefinedOp
  /-- `Z` is not zero. -/
  | reservedZ
  /-- A bit of `A` that R103 requires to be 0 is 1, or `A` selects no row of this `OP`. -/
  | reservedA
  /-- A bit of `F` that R103 requires to be 0 is 1. -/
  | reservedF
  deriving DecidableEq, Repr

/-- `OP = CMD[31:24]` (R100). -/
def Command.op (c : Command) : BitVec 8 := c.cmd.extractLsb' 24 8

/-- `A = CMD[23:16]` (R100). -/
def Command.a (c : Command) : BitVec 8 := c.cmd.extractLsb' 16 8

/-- `F = CMD[15:8]` (R100). -/
def Command.f (c : Command) : BitVec 8 := c.cmd.extractLsb' 8 8

/-- `Z = CMD[7:0]` (R100). -/
def Command.z (c : Command) : BitVec 8 := c.cmd.extractLsb' 0 8

/-- The low 16 bits of `OPA`: the port, error code or trap bits of R101. -/
def Command.opaLow (c : Command) : Half := c.opa.extractLsb' 0 16

/-- `WRCR` (OP 0x01) by its register number (R104). -/
def decodeWrcr (a : BitVec 8) (v : Word) : Except DecodeError Instr :=
  match a with
  | 0x00#8 => .ok (.wrcr0 v)
  | 0x01#8 => .ok .wrcr1Ud
  | 0x02#8 => .ok (.wrcr2 v)
  | 0x03#8 => .ok (.wrcr3 v)
  | 0x04#8 => .ok (.wrcr4 v)
  | 0x05#8 => .ok .wrcr5Ud
  | 0x06#8 => .ok (.wrcr6_7Ud 0#1)
  | 0x07#8 => .ok (.wrcr6_7Ud 1#1)
  | 0x08#8 => .ok (.wrcr8 v)
  | 0x09#8 => .ok .wrcr9Ud
  | 0x0A#8 => .ok (.wrcr10_11Ud 0#1)
  | 0x0B#8 => .ok (.wrcr10_11Ud 1#1)
  | 0x0C#8 => .ok (.wrcr12_15Ud 0#2)
  | 0x0D#8 => .ok (.wrcr12_15Ud 1#2)
  | 0x0E#8 => .ok (.wrcr12_15Ud 2#2)
  | 0x0F#8 => .ok (.wrcr12_15Ud 3#2)
  | _ => .error .reservedA

/-- `RDCR` (OP 0x02) by its register number (R104). -/
def decodeRdcr (a : BitVec 8) : Except DecodeError Instr :=
  match a with
  | 0x00#8 => .ok .rdcr0
  | 0x01#8 => .ok .rdcr1Ud
  | 0x02#8 => .ok .rdcr2
  | 0x03#8 => .ok .rdcr3
  | 0x04#8 => .ok .rdcr4
  | 0x05#8 => .ok .rdcr5Ud
  | 0x06#8 => .ok (.rdcr6_7Ud 0#1)
  | 0x07#8 => .ok (.rdcr6_7Ud 1#1)
  | 0x08#8 => .ok .rdcr8
  | 0x09#8 => .ok .rdcr9Ud
  | 0x0A#8 => .ok (.rdcr10_11Ud 0#1)
  | 0x0B#8 => .ok (.rdcr10_11Ud 1#1)
  | 0x0C#8 => .ok (.rdcr12_15Ud 0#2)
  | 0x0D#8 => .ok (.rdcr12_15Ud 1#2)
  | 0x0E#8 => .ok (.rdcr12_15Ud 2#2)
  | 0x0F#8 => .ok (.rdcr12_15Ud 3#2)
  | _ => .error .reservedA

/-- `WRDR` (OP 0x03) by its register number (R105). -/
def decodeWrdr (a : BitVec 8) (v : Word) : Except DecodeError Instr :=
  match a with
  | 0x00#8 => .ok (.wrdr0 v)
  | 0x01#8 => .ok (.wrdr1 v)
  | 0x02#8 => .ok (.wrdr2 v)
  | 0x03#8 => .ok (.wrdr3 v)
  | 0x04#8 => .ok (.wrdr4 v)
  | 0x05#8 => .ok (.wrdr5 v)
  | 0x06#8 => .ok (.wrdr6 v)
  | 0x07#8 => .ok (.wrdr7 v)
  | _ => if a.extractLsb' 3 5 == 1#5 then .ok (.wrdr8_15Ud (a.extractLsb' 0 3)) else .error .reservedA

/-- `RDDR` (OP 0x04) by its register number (R105). -/
def decodeRddr (a : BitVec 8) : Except DecodeError Instr :=
  match a with
  | 0x00#8 => .ok .rddr0
  | 0x01#8 => .ok .rddr1
  | 0x02#8 => .ok .rddr2
  | 0x03#8 => .ok .rddr3
  | 0x04#8 => .ok .rddr4
  | 0x05#8 => .ok .rddr5
  | 0x06#8 => .ok .rddr6
  | 0x07#8 => .ok .rddr7
  | _ => if a.extractLsb' 3 5 == 1#5 then .ok (.rddr8_15Ud (a.extractLsb' 0 3)) else .error .reservedA

/-- An instruction whose row fixes `A` to 0 and lets `F` hold only the bits of `fmask` (R103). -/
def decodeA0 (a f fmask : BitVec 8) (i : Instr) : Except DecodeError Instr :=
  if a != 0#8 then .error .reservedA else if f &&& ~~~fmask != 0#8 then .error .reservedF else .ok i

/-- An instruction whose row lets `A` hold only the bits of `amask` and `F` only the bits of `fmask` (R103). -/
def decodeAF (a amask f fmask : BitVec 8) (i : Instr) : Except DecodeError Instr :=
  if a &&& ~~~amask != 0#8 then .error .reservedA else if f &&& ~~~fmask != 0#8 then .error .reservedF else .ok i

/-- A register selection is looked at only when `F` is zero (R103). -/
def decodeF0 (f : BitVec 8) (r : Except DecodeError Instr) : Except DecodeError Instr :=
  if f != 0#8 then .error .reservedF else r

/-- The decoder: `OP` first, then the reserved bits, then the row (R100, R103, R115). -/
def decode (c : Command) : Except DecodeError Instr :=
  if c.z != 0#8 then .error .reservedZ
  else
    let a := c.a
    let f := c.f
    match c.op with
    | 0x01#8 => decodeF0 f (decodeWrcr a c.opa)
    | 0x02#8 => decodeF0 f (decodeRdcr a)
    | 0x03#8 => decodeF0 f (decodeWrdr a c.opa)
    | 0x04#8 => decodeF0 f (decodeRddr a)
    | 0x05#8 => decodeA0 a f 0#8 (.wrefer c.opa)
    | 0x06#8 => decodeA0 a f 0#8 .rdefer
    | 0x07#8 => decodeF0 f (.ok (.wrxcr a c.opa))
    | 0x08#8 => decodeF0 f (.ok (.rdxcr a))
    | 0x09#8 => decodeA0 a f 0#8 (.wrxss c.opa)
    | 0x0A#8 => decodeA0 a f 0#8 .rdxss
    | 0x10#8 => decodeAF a 0xFF#8 f 0x03#8 (.chkio a (f.getLsbD 0) (f.getLsbD 1) c.opaLow)
    | 0x20#8 => decodeA0 a f 0#8 .boundary
    | 0x21#8 => decodeA0 a f 0x03#8 (.inhibit (f.extractLsb' 0 2))
    | 0x22#8 => decodeAF a 0x0F#8 f 0x01#8 (.signal (a.extractLsb' 0 4) (f.getLsbD 0))
    | 0x23#8 => decodeAF a 0x0F#8 f 0x01#8 (.evmask (a.extractLsb' 0 4) (f.getLsbD 0))
    | 0x24#8 => decodeA0 a f 0#8 (.dbgtrap c.opaLow)
    | 0x25#8 => decodeAF a 0x07#8 f 0#8 (.activity (a.extractLsb' 0 3))
    | 0x30#8 => decodeF0 f (.ok (.raise a c.opaLow (if a == 14#8 then c.opb else 0#64)))
    | 0x31#8 => decodeAF a 0xFF#8 f 0x0F#8 (.int a (f.extractLsb' 0 3) (f.getLsbD 3) c.opaLow)
    | 0x40#8 => decodeA0 a f 0#8 .instrStart
    | 0x41#8 => decodeA0 a f 0#8 .specRsp
    | 0x42#8 => decodeA0 a f 0#8 .commitRsp
    | _ => .error .undefinedOp

/-- `CMD` from its fields, `Z = 0` (R100). -/
def mkCmd (op a f : BitVec 8) : BitVec 32 := op ++ a ++ f ++ 0#8

/-- A command without flags: `OP`, `A` and `OPA` (R120). -/
def mkCommand (op a : BitVec 8) (opa : Word) : Command := ⟨mkCmd op a 0#8, opa, 0#64⟩

/-- The encoder: the command word of R103 with the operands where R101 puts them. -/
def encode : Instr → Command
  | .wrcr0 v => mkCommand 0x01#8 0x00#8 v
  | .wrcr2 v => mkCommand 0x01#8 0x02#8 v
  | .wrcr3 v => mkCommand 0x01#8 0x03#8 v
  | .wrcr4 v => mkCommand 0x01#8 0x04#8 v
  | .wrcr8 v => mkCommand 0x01#8 0x08#8 v
  | .wrcr1Ud => mkCommand 0x01#8 0x01#8 0#64
  | .wrcr5Ud => mkCommand 0x01#8 0x05#8 0#64
  | .wrcr6_7Ud a => mkCommand 0x01#8 (3#7 ++ a) 0#64
  | .wrcr9Ud => mkCommand 0x01#8 0x09#8 0#64
  | .wrcr10_11Ud a => mkCommand 0x01#8 (5#7 ++ a) 0#64
  | .wrcr12_15Ud a => mkCommand 0x01#8 (3#6 ++ a) 0#64
  | .rdcr0 => mkCommand 0x02#8 0x00#8 0#64
  | .rdcr2 => mkCommand 0x02#8 0x02#8 0#64
  | .rdcr3 => mkCommand 0x02#8 0x03#8 0#64
  | .rdcr4 => mkCommand 0x02#8 0x04#8 0#64
  | .rdcr8 => mkCommand 0x02#8 0x08#8 0#64
  | .rdcr1Ud => mkCommand 0x02#8 0x01#8 0#64
  | .rdcr5Ud => mkCommand 0x02#8 0x05#8 0#64
  | .rdcr6_7Ud a => mkCommand 0x02#8 (3#7 ++ a) 0#64
  | .rdcr9Ud => mkCommand 0x02#8 0x09#8 0#64
  | .rdcr10_11Ud a => mkCommand 0x02#8 (5#7 ++ a) 0#64
  | .rdcr12_15Ud a => mkCommand 0x02#8 (3#6 ++ a) 0#64
  | .wrdr0 v => mkCommand 0x03#8 0x00#8 v
  | .wrdr1 v => mkCommand 0x03#8 0x01#8 v
  | .wrdr2 v => mkCommand 0x03#8 0x02#8 v
  | .wrdr3 v => mkCommand 0x03#8 0x03#8 v
  | .wrdr4 v => mkCommand 0x03#8 0x04#8 v
  | .wrdr5 v => mkCommand 0x03#8 0x05#8 v
  | .wrdr6 v => mkCommand 0x03#8 0x06#8 v
  | .wrdr7 v => mkCommand 0x03#8 0x07#8 v
  | .wrdr8_15Ud a => mkCommand 0x03#8 (1#5 ++ a) 0#64
  | .rddr0 => mkCommand 0x04#8 0x00#8 0#64
  | .rddr1 => mkCommand 0x04#8 0x01#8 0#64
  | .rddr2 => mkCommand 0x04#8 0x02#8 0#64
  | .rddr3 => mkCommand 0x04#8 0x03#8 0#64
  | .rddr4 => mkCommand 0x04#8 0x04#8 0#64
  | .rddr5 => mkCommand 0x04#8 0x05#8 0#64
  | .rddr6 => mkCommand 0x04#8 0x06#8 0#64
  | .rddr7 => mkCommand 0x04#8 0x07#8 0#64
  | .rddr8_15Ud a => mkCommand 0x04#8 (1#5 ++ a) 0#64
  | .wrefer v => mkCommand 0x05#8 0#8 v
  | .rdefer => mkCommand 0x06#8 0#8 0#64
  | .wrxcr i v => mkCommand 0x07#8 i v
  | .rdxcr i => mkCommand 0x08#8 i 0#64
  | .wrxss v => mkCommand 0x09#8 0#8 v
  | .rdxss => mkCommand 0x0A#8 0#8 0#64
  | .chkio width out rep port =>
    ⟨mkCmd 0x10#8 width (0#6 ++ BitVec.ofBool rep ++ BitVec.ofBool out), port.setWidth 64, 0#64⟩
  | .boundary => mkCommand 0x20#8 0#8 0#64
  | .inhibit m => ⟨mkCmd 0x21#8 0#8 (0#6 ++ m), 0#64, 0#64⟩
  | .signal e level => ⟨mkCmd 0x22#8 (0#4 ++ e) (0#7 ++ BitVec.ofBool level), 0#64, 0#64⟩
  | .evmask e mask => ⟨mkCmd 0x23#8 (0#4 ++ e) (0#7 ++ BitVec.ofBool mask), 0#64, 0#64⟩
  | .dbgtrap b => mkCommand 0x24#8 0#8 (b.setWidth 64)
  | .activity a => mkCommand 0x25#8 (0#5 ++ a) 0#64
  | .raise v ec addr => ⟨mkCmd 0x30#8 v 0#8, ec.setWidth 64, addr⟩
  | .int v type pushError ec =>
    ⟨mkCmd 0x31#8 v (0#4 ++ BitVec.ofBool pushError ++ type), ec.setWidth 64, 0#64⟩
  | .instrStart => mkCommand 0x40#8 0#8 0#64
  | .specRsp => mkCommand 0x41#8 0#8 0#64
  | .commitRsp => mkCommand 0x42#8 0#8 0#64

/-- The command whose bits are the number `w`: `CMD` first, then `OPA`, then `OPB` (the table's numbering, R100). -/
def Command.ofNat (w : Nat) : Command :=
  ⟨BitVec.ofNat 32 w, BitVec.ofNat 64 (w >>> 32), BitVec.ofNat 64 (w >>> 96)⟩

/-- The command that a table word of `nbits` bits stands for: every bit above `nbits` is 0. -/
def Command.ofTableWord (nbits w : Nat) : Command := Command.ofNat (w % 2 ^ nbits)

/-- The instruction the decoder reads from a table word, `none` where it refuses. -/
def decodeTableWord (nbits w : Nat) : Option Instr :=
  match decode (Command.ofTableWord nbits w) with
  | .ok i => some i
  | .error _ => none

end Sys2Proof
end

