-- ==== Sys2Proof/Machine/State.lean ====
section
/-! DEFINITION. The state of the block as plain data (spec/10_state.md), its reset value (spec/70_reset_and_hazards.md
R411), and the reasons a step can stop. -/

namespace Sys2Proof.Machine

/-- Why the machine stops with a fault. No architectural fault is here: those are taken (R380). -/
inductive Fault where
  /-- Raised by `exception` when its recursion bound is used up. The bound is larger than any chain of nested faults
  the rules admit (log entry 20), so no step answers it. Safe. -/
  | deliveryDepth
  deriving DecidableEq, Repr

/-- Why a command has no meaning. -/
inductive Refusal where
  /-- Raised by an arm of `exec` whose instruction has no meaning yet. No arm does. Safe. -/
  | notModelled (mnemonic : String)
  /-- Raised by `deliver` when `CET_SUPPORTED` and CR4.CET are both set: the spec defines `CET_SUPPORTED = false` only
  and describes no shadow-stack access (R344, R371, D29), and its file 93_implementation_defined.md says to refuse
  `CET_SUPPORTED = true` (log entry 21). Safe. -/
  | cetNotSpecified
  deriving DecidableEq, Repr

/-- OperatingMode (R30). -/
inductive Mode where
  | real
  | v86
  | prot
  | compat
  | long64
  deriving DecidableEq, Repr

/-- The exception classes held by `last_exception_type` (R56). -/
inductive ExcClass where
  | benign
  | contributory
  | pageFault
  | doubleFault
  deriving DecidableEq, Repr

/-- `activity` (R53). The codes 6 and 7 never occur. -/
inductive Activity where
  | active
  | hlt
  | shutdown
  | waitForSipi
  | mwait
  | mwaitIf
  deriving DecidableEq, Repr

/-- The access descriptor of a port access (R71), and `phys` for `PhysRead` (R74). -/
inductive Acc where
  | sys
  | stack (pl : BitVec 2)
  | phys
  deriving DecidableEq, Repr

/-- The scope of a TLB flush request (R75). -/
inductive FlushScope where
  | all
  | nonglobal
  deriving DecidableEq, Repr

/-- The reason of an `ABORT` (R404). -/
inductive AbortReason where
  | badCommand
  | badVector
  | trInvalid
  | trType
  deriving DecidableEq, Repr

/-- The kind of a `Reset` entry. `platform` is the host's own reset (R410 (d), log entry 16). -/
inductive ResetKind where
  | init
  | tripleFault
  | platform
  deriving DecidableEq, Repr

/-- The reason of a VM exit. The reasons the rules name (R155, R235, R239, R240, R242), and `layer` for the opaque
tokens of the intercept layer (R212). -/
inductive ExitReason where
  | cr0Write
  | cr0SelectiveWrite
  | mtf
  | preemptionTimer
  | nmiWindow
  | interruptWindow
  | layer (token : Nat)
  deriving DecidableEq, Repr

/-- The hidden part of a segment register, and a segment descriptor read from memory (R43, R321). -/
structure Desc where
  base : Word
  limit : BitVec 32
  type : BitVec 4
  s : Bool
  dpl : BitVec 2
  p : Bool
  avl : Bool
  l : Bool
  db : Bool
  g : Bool
  deriving DecidableEq, Repr

/-- An entry of the event history (R60). -/
inductive Event where
  | tlbFlush (scope : FlushScope)
  | pdptrLoad (e0 e1 e2 e3 : Word)
  | delivered (v : Vector8) (type : BitVec 3)
  | modeChange (mode : Mode)
  | setTpr (v : BitVec 8)
  | setVTpr (v : BitVec 8)
  | intAck (v : Vector8)
  | virtIntAck (v : Vector8)
  | dmaHoldAck
  | vmExit (reason : ExitReason) (qualification : Word)
  | smmEntry
  | reset (kind : ResetKind)
  | shutdown
  /-- `TaskSwitch(t, d, source = interrupt, push, ec)` (R330). -/
  | taskSwitch (selector : Half) (desc : Desc) (push : Bool) (ec : Half)
  | abort (reason : AbortReason)
  | memR (addr : Word) (n : Nat) (acc : Acc)
  | memW (addr : Word) (n : Nat) (v : Word) (acc : Acc)
  deriving DecidableEq, Repr

/-- The ControlRegisterSet (R20 to R24, R26 to R28). CR8 is an alias of `TPR` and is not here (R25). -/
@[ext] structure ControlRegs where
  cr0 : Word
  cr2 : Word
  cr3 : Word
  cr4 : Word
  efer : Word
  xcr0 : Word
  xss : Word
  dr0 : Word
  dr1 : Word
  dr2 : Word
  dr3 : Word
  dr6 : Word
  dr7 : Word
  deriving DecidableEq, Repr

/-- A segment register (R43), also TR and LDTR (R45). -/
structure SegReg where
  sel : Half
  valid : Bool
  cache : Desc
  deriving DecidableEq, Repr

/-- GDTR or IDTR (R46). -/
structure TableReg where
  base : Word
  limit : BitVec 16
  deriving DecidableEq, Repr

/-- The registers shared with the core (R40 to R46). -/
@[ext] structure Context where
  rsp : Word
  ssp : Word
  rip : Word
  rflags : Word
  cs : SegReg
  ss : SegReg
  ds : SegReg
  es : SegReg
  fs : SegReg
  gs : SegReg
  cpl : BitVec 2
  tr : SegReg
  ldtr : SegReg
  gdtr : TableReg
  idtr : TableReg
  deriving DecidableEq, Repr

/-- PendingEventSet and scheduler state (R50 to R53). -/
@[ext] structure Sched where
  pending : BitVec 16
  mask : BitVec 16
  debugTrap : BitVec 16
  inhibit : BitVec 2
  activity : Activity
  deriving DecidableEq, Repr

/-- ExceptionState (R55 to R58). -/
@[ext] structure ExcState where
  prevRip : Word
  prevRsp : Word
  prevSsp : Word
  specRsp : Bool
  lastType : ExcClass
  inEvent : Bool
  extBit : Bool
  deriving DecidableEq, Repr

/-- The direction of an intercepted register access (R206). -/
inductive Dir where
  | read
  | write
  deriving DecidableEq, Repr

/-- The control registers the intercept layer is asked about (R206). -/
inductive CrNum where
  | cr0
  | cr2
  | cr3
  | cr4
  | cr8
  deriving DecidableEq, Repr

/-- The debug registers, after alias resolution (R207). -/
inductive DrNum where
  | dr0
  | dr1
  | dr2
  | dr3
  | dr6
  | dr7
  deriving DecidableEq, Repr

/-- The model-specific registers of `IcptReg` (R208). -/
inductive MsrNum where
  | efer
  | xcr0
  | xss
  deriving DecidableEq, Repr

/-- The asynchronous events of `IcptEvent` (R211). -/
inductive AsyncEvent where
  | smi
  | init
  | nmi
  | intr (v : Vector8)
  | vintr
  deriving DecidableEq, Repr

/-- A query that can be answered `Handled`: `IcptCR` (R206) and `IcptReg` (R208). -/
inductive RegQuery where
  | cr (n : CrNum) (dir : Dir) (old new : Word)
  | msr (r : MsrNum) (dir : Dir) (old new : Word)
  deriving DecidableEq, Repr

/-- A query answered `Pass` or `Exit` only: `IcptDR`, `IcptExc`, `IcptIO`, `IcptEvent` (R207, R209 to R211). -/
inductive PlainQuery where
  | dr (n : DrNum) (dir : Dir)
  /-- `IcptExc`, with the `EXT` and `in_event` bits that R209 lets the layer read (log entry 8). -/
  | exc (v : Vector8) (ec : Half) (push : Bool) (type : BitVec 3) (ext inEvent : Bool)
  | io (port : Half) (width : BitVec 8) (out rep : Bool)
  | event (e : AsyncEvent)
  deriving DecidableEq, Repr

/-- Reason and qualification of an `Exit` answer, opaque tokens (R212). -/
structure ExitInfo where
  reason : ExitReason
  qualification : Word
  deriving DecidableEq, Repr

/-- The answer to a register query (R206). -/
inductive RegAnswer where
  | pass
  | exit (info : ExitInfo)
  /-- `Handled` or `Handled(x)`. `vtpr` says that the layer also set `pending_event[VMX_VTPR]`, which R150 lets it do
  when it handles a CR8 write (log entry 24). -/
  | handled (x : Word) (vtpr : Bool)
  deriving DecidableEq, Repr

/-- The InterceptConfiguration as data (R59, R205): the two SVM CR0-write bits of R155 with the qualification the layer
would report, and the intercepted queries with their answers. A query that is not listed answers `Pass`. -/
structure InterceptConfig where
  cr0Write : Bool
  cr0SelWrite : Bool
  cr0Qual : Word
  regs : List (RegQuery × RegAnswer)
  plain : List (PlainQuery × ExitInfo)
  deriving DecidableEq, Repr

/-- Inputs other agents drive (R54, R59, R232, R243, R244). The four vectors are what each controller would answer to an
acknowledge (I4, log entry 10); `apicTraps` holds the events for which the VMX host's internal action `ApicVirtTrap` would
answer `Exit` (log entry 36). -/
structure Inputs where
  killRequest : Bool
  inGuest : Bool
  inSvmGuest : Bool
  inSmm : Bool
  gif : Bool
  svmVIntrMasking : Bool
  lapicVector : Vector8
  picVector : Vector8
  vapicVector : Vector8
  svmVector : Vector8
  apicTraps : List (Nat × ExitInfo)
  icpt : InterceptConfig
  deriving DecidableEq, Repr

/-- The response port (R102). -/
structure Response where
  resp : BitVec 32
  res : Word
  deriving DecidableEq, Repr

/-- Which controller an acknowledge is addressed to (R243, R244). -/
inductive AckSource where
  | lapic
  | pic
  | vapic
  | svm
  deriving DecidableEq, Repr

/-- What other agents do to the state between two commands (log entry 16). -/
inductive HostAction where
  /-- The host drives `kill_request` (R222). -/
  | setKillRequest (b : Bool)
  /-- The host drives `in_guest`, and `in_svm_guest` with it (R59). -/
  | setInGuest (b : Bool)
  /-- The host drives `in_svm_guest`, and `in_guest` with it (R59, log entry 17). -/
  | setInSvmGuest (b : Bool)
  /-- The host drives `in_smm` (R59). -/
  | setInSmm (b : Bool)
  /-- The host drives `gif` (R59). -/
  | setGif (b : Bool)
  /-- The host drives `svm_v_intr_masking` (R59). -/
  | setSvmVIntrMasking (b : Bool)
  /-- A controller changes the vector it would answer (R243, R244). -/
  | setAckVector (src : AckSource) (v : Vector8)
  /-- The InterceptConfiguration swaps (R59, R205). -/
  | setIntercepts (c : InterceptConfig)
  /-- The VMX host changes what `ApicVirtTrap` would answer (R232). -/
  | setApicTraps (answers : List (Nat × ExitInfo))
  /-- The core or the host rewrites the shared context (R40 to R46, D7, R212), with any values (log entries 28 and
  29). -/
  | loadContext (c : Context)
  /-- The APIC's own register interface writes TPR (R25). -/
  | setTpr (v : BitVec 8)
  /-- The nested-virtualization host writes V_TPR (R25). -/
  | setVTpr (v : BitVec 8)
  /-- Another agent stores a byte that the linear memory port sees (R84). -/
  | storeLinear (addr : Word) (b : Byte)
  /-- Another agent stores a byte of physical memory (R84). -/
  | storePhys (addr : Word) (b : Byte)
  /-- The paging service's answers to the next linear accesses (R72). -/
  | setPort (answers : List (Option Half))
  /-- The task-switch unit finishes a switch that a delivery of `v` with `type` began (R330). -/
  | taskSwitchDone (v : Vector8) (type : BitVec 3)
  /-- The host applies a platform reset (R410 (d)). -/
  | platformReset
  deriving DecidableEq, Repr

/-- A request at the block: a command (R100), or an action of another agent. -/
inductive Request where
  | command (c : Command)
  | host (a : HostAction)
  deriving DecidableEq, Repr

/-- A byte memory as address and byte pairs, in the canonical form of `Memory.wf`. -/
abbrev Memory := List Host.Cell

/-- What an address that a memory does not list reads as (log entry 5). -/
def Memory.unlisted : Byte := 0#8

/-- The canonical form: addresses strictly rising from above `lo`, below 2^64, and no byte equal to the unlisted one. -/
def Memory.wfFrom (lo : Option Nat) : Memory → Bool
  | [] => true
  | (a, b) :: rest =>
    (match lo with
      | none => true
      | some l => decide (l < a)) && decide (a < 2 ^ 64) && b != Memory.unlisted && Memory.wfFrom (some a) rest

/-- The canonical form of a memory. -/
def Memory.wf (m : Memory) : Bool := Memory.wfFrom none m

/-- The whole state. `cfg` is the immutable record of R5; `port` and `queue` are the model's input lists (log entries 1
and 7); the rest is spec/10_state.md's. -/
@[ext]
structure State where
  cfg : Config
  regs : ControlRegs
  ctx : Context
  sched : Sched
  exc : ExcState
  tpr : BitVec 8
  vtpr : BitVec 8
  inp : Inputs
  hist : List Event
  aborted : Bool
  response : Response
  mem : Memory
  phys : Memory
  port : List (Option Half)
  queue : List Request
  deriving DecidableEq, Repr

/-! ### Updates, one for each field that a command or a request writes -/

def State.setRegs (s : State) (v : ControlRegs) : State := { s with regs := v }
def State.setCtx (s : State) (v : Context) : State := { s with ctx := v }
def State.setSched (s : State) (v : Sched) : State := { s with sched := v }
def State.setExc (s : State) (v : ExcState) : State := { s with exc := v }
def State.setTpr (s : State) (v : BitVec 8) : State := { s with tpr := v }
def State.setVTpr (s : State) (v : BitVec 8) : State := { s with vtpr := v }
def State.setInp (s : State) (v : Inputs) : State := { s with inp := v }
def State.setHist (s : State) (v : List Event) : State := { s with hist := v }
def State.setAborted (s : State) (v : Bool) : State := { s with aborted := v }
def State.setResponse (s : State) (v : Response) : State := { s with response := v }
def State.setMem (s : State) (v : Memory) : State := { s with mem := v }
def State.setPhys (s : State) (v : Memory) : State := { s with phys := v }
def State.setPort (s : State) (v : List (Option Half)) : State := { s with port := v }
def State.setQueue (s : State) (v : List Request) : State := { s with queue := v }

/-! ### Reset (R411) -/

/-- The control registers at reset (R411). -/
def ControlRegs.reset : ControlRegs where
  cr0 := 0x60000010#64
  cr2 := 0#64
  cr3 := 0#64
  cr4 := 0#64
  efer := 0#64
  xcr0 := 1#64
  xss := 0#64
  dr0 := 0#64
  dr1 := 0#64
  dr2 := 0#64
  dr3 := 0#64
  dr6 := 0xFFFF0FF0#64
  dr7 := 0x400#64

/-- CS at reset (R411; `avl` is log entry 19). -/
def SegReg.resetCs : SegReg where
  sel := 0xF000#16
  valid := true
  cache := ⟨0xFFFF0000#64, 0xFFFF#32, 0xB#4, true, 0#2, true, false, false, false, false⟩

/-- SS, DS, ES, FS and GS at reset (R411; `avl` is log entry 19). -/
def SegReg.resetData : SegReg where
  sel := 0#16
  valid := true
  cache := ⟨0#64, 0xFFFF#32, 0x3#4, true, 0#2, true, false, false, false, false⟩

/-- TR at reset (R411; `dpl`, `avl`, `l`, `d_b`, `g` are log entry 19). -/
def SegReg.resetTr : SegReg where
  sel := 0#16
  valid := true
  cache := ⟨0#64, 0xFFFF#32, 0xB#4, false, 0#2, true, false, false, false, false⟩

/-- LDTR at reset (R411; `dpl`, `avl`, `l`, `d_b`, `g` are log entry 19). -/
def SegReg.resetLdtr : SegReg where
  sel := 0#16
  valid := false
  cache := ⟨0#64, 0xFFFF#32, 0x2#4, false, 0#2, true, false, false, false, false⟩

/-- The shared context at reset (R411). -/
def Context.reset : Context where
  rsp := 0#64
  ssp := 0#64
  rip := 0xFFF0#64
  rflags := 2#64
  cs := SegReg.resetCs
  ss := SegReg.resetData
  ds := SegReg.resetData
  es := SegReg.resetData
  fs := SegReg.resetData
  gs := SegReg.resetData
  cpl := 0#2
  tr := SegReg.resetTr
  ldtr := SegReg.resetLdtr
  gdtr := ⟨0#64, 0xFFFF#16⟩
  idtr := ⟨0#64, 0xFFFF#16⟩

/-- The scheduler state at reset (R411). -/
def Sched.reset : Sched := ⟨0#16, 0#16, 0#16, 0#2, .active⟩

/-- The exception state at reset (R411). -/
def ExcState.reset : ExcState := ⟨0xFFF0#64, 0#64, 0#64, false, .benign, false, false⟩

/-- The inputs at power-on: R411 for the six bits, log entries 8 and 10 for the rest. -/
def Inputs.reset : Inputs where
  killRequest := false
  inGuest := false
  inSvmGuest := false
  inSmm := false
  gif := true
  svmVIntrMasking := false
  lapicVector := 0#8
  picVector := 0#8
  vapicVector := 0#8
  svmVector := 0#8
  apicTraps := []
  icpt := ⟨false, false, 0#64, [], []⟩

/-- The machine right after power-on: every element at the value of R411, the history, the memories and the input
lists empty, and the profile P0 (log entries 1, 2, 4, 5, 7, 18). -/
def State.reset : State where
  cfg := Config.p0
  regs := ControlRegs.reset
  ctx := Context.reset
  sched := Sched.reset
  exc := ExcState.reset
  tpr := 0#8
  vtpr := 0#8
  inp := Inputs.reset
  hist := []
  aborted := false
  response := ⟨0#32, 0#64⟩
  mem := []
  phys := []
  port := []
  queue := []

end Sys2Proof.Machine
end

