-- ==== Sys2Proof/Machine/Operands.lean ====
section
/-! DEFINITION. The operand forms: the fields of the registers (spec/10_state.md R21 to R45), the operating mode (R30),
and the formats of selectors, descriptors and gates (spec/47_delivery_protected.md R321, R322, spec/48_delivery_long.md
R356, R358). -/

namespace Sys2Proof.Machine

/-! ### Control-register fields -/

/-- CR0.PE (R21). -/
def ControlRegs.pe (r : ControlRegs) : Bool := r.cr0.getLsbD 0
/-- CR0.WP (R21). -/
def ControlRegs.wp (r : ControlRegs) : Bool := r.cr0.getLsbD 16
/-- CR0.NW (R21). -/
def ControlRegs.nw (r : ControlRegs) : Bool := r.cr0.getLsbD 29
/-- CR0.CD (R21). -/
def ControlRegs.cd (r : ControlRegs) : Bool := r.cr0.getLsbD 30
/-- CR0.PG (R21). -/
def ControlRegs.pg (r : ControlRegs) : Bool := r.cr0.getLsbD 31
/-- CR4.DE (R24). -/
def ControlRegs.de (r : ControlRegs) : Bool := r.cr4.getLsbD 3
/-- CR4.PAE (R24). -/
def ControlRegs.pae (r : ControlRegs) : Bool := r.cr4.getLsbD 5
/-- CR4.PGE (R24). -/
def ControlRegs.pge (r : ControlRegs) : Bool := r.cr4.getLsbD 7
/-- CR4.VMXE (R24). -/
def ControlRegs.vmxe (r : ControlRegs) : Bool := r.cr4.getLsbD 13
/-- CR4.PCIDE (R24). -/
def ControlRegs.pcide (r : ControlRegs) : Bool := r.cr4.getLsbD 17
/-- CR4.OSXSAVE (R24). -/
def ControlRegs.osxsave (r : ControlRegs) : Bool := r.cr4.getLsbD 18
/-- CR4.CET (R24). -/
def ControlRegs.cet (r : ControlRegs) : Bool := r.cr4.getLsbD 23
/-- EFER.LME (R26). -/
def ControlRegs.lme (r : ControlRegs) : Bool := r.efer.getLsbD 8
/-- EFER.LMA (R26). -/
def ControlRegs.lma (r : ControlRegs) : Bool := r.efer.getLsbD 10
/-- DR7.GD (R28). -/
def ControlRegs.gd (r : ControlRegs) : Bool := r.dr7.getLsbD 13

/-- The mask of EFER.LMA (R26, R163). -/
def eferLma : Word := 0x400#64

/-! ### RFLAGS fields read as operands (R42) -/

/-- RFLAGS.TF. -/
def Context.tf (c : Context) : Bool := c.rflags.getLsbD 8
/-- RFLAGS.IF. -/
def Context.iflag (c : Context) : Bool := c.rflags.getLsbD 9
/-- RFLAGS.VM. -/
def Context.vm (c : Context) : Bool := c.rflags.getLsbD 17
/-- RFLAGS.IOPL. -/
def Context.iopl (c : Context) : BitVec 2 := c.rflags.extractLsb' 12 2

/-! ### The operating mode (R30) -/

/-- `Mode()`. -/
def modeOf (r : ControlRegs) (c : Context) : Mode :=
  if r.lma then (if c.cs.cache.l then .long64 else .compat)
  else if !r.pe then .real
  else if c.vm then .v86
  else .prot

/-- `Mode()` of a state. -/
def State.mode (s : State) : Mode := modeOf s.regs s.ctx

/-- `LongMode()`. -/
def State.longMode (s : State) : Bool := s.regs.lma

/-! ### Selectors, error codes, canonical addresses -/

/-- `sel & 0xFFFC`: the selector as an error code (R383). -/
def selCode (sel : Half) : Half := sel &&& 0xFFFC#16

/-- `8·v + 2`: IDT entry `v` as an error code (R324, R383). -/
def idtCode (v : Vector8) : Half := (v.setWidth 16 <<< 3) + 2#16

/-- The selector with its RPL replaced by `pl` (R340, R341). -/
def withRpl (sel : Half) (pl : BitVec 2) : Half := selCode sel ||| pl.setWidth 16

/-- `Canonical(x)` (R358). -/
def canonical (x : Word) : Bool := x == (x.setWidth 48).signExtend 64

/-! ### Descriptors and gates -/

/-- The segment descriptor in the 64-bit value `d` (R321). -/
def parseDesc (d : Word) : Desc where
  base := ((d.extractLsb' 56 8) ++ (d.extractLsb' 32 8) ++ (d.extractLsb' 16 16)).setWidth 64
  limit :=
    let limit20 : BitVec 32 := ((d.extractLsb' 48 4) ++ (d.extractLsb' 0 16)).setWidth 32
    if d.getLsbD 55 then (limit20 <<< 12) ||| 0xFFF#32 else limit20
  type := d.extractLsb' 40 4
  s := d.getLsbD 44
  dpl := d.extractLsb' 45 2
  p := d.getLsbD 47
  avl := d.getLsbD 52
  l := d.getLsbD 53
  db := d.getLsbD 54
  g := d.getLsbD 55

/-- A code segment (R321). -/
def Desc.isCode (d : Desc) : Bool := d.s && d.type.getLsbD 3

/-- A conforming code segment, given that it is one (R321). -/
def Desc.conforming (d : Desc) : Bool := d.type.getLsbD 2

/-- A writable data segment (R321, R334). -/
def Desc.writableData (d : Desc) : Bool := d.s && !d.type.getLsbD 3 && d.type.getLsbD 1

/-- The fields of a gate (R322, R356). `offset` is the whole target, already extended for the gate's size. -/
structure Gate where
  offset : Word
  selector : Half
  ist : BitVec 3
  type : BitVec 4
  s : Bool
  dpl : BitVec 2
  p : Bool
  deriving DecidableEq, Repr

/-- The 8-byte gate: a 16-bit gate (types 6 and 7) has a 16-bit offset (R322). -/
def parseGate (q : Word) : Gate where
  offset :=
    if q.extractLsb' 40 4 == 6#4 || q.extractLsb' 40 4 == 7#4 then (q.extractLsb' 0 16).setWidth 64
    else ((q.extractLsb' 48 16) ++ (q.extractLsb' 0 16)).setWidth 64
  selector := q.extractLsb' 16 16
  ist := 0#3
  type := q.extractLsb' 40 4
  s := q.getLsbD 44
  dpl := q.extractLsb' 45 2
  p := q.getLsbD 47

/-- The 16-byte gate of long mode (R356). -/
def parseLongGate (q0 q1 : Word) : Gate where
  offset := (q1.extractLsb' 0 32) ++ (q0.extractLsb' 48 16) ++ (q0.extractLsb' 0 16)
  selector := q0.extractLsb' 16 16
  ist := q0.extractLsb' 32 3
  type := q0.extractLsb' 40 4
  s := q0.getLsbD 44
  dpl := q0.extractLsb' 45 2
  p := q0.getLsbD 47

/-- An even gate type is an interrupt gate (R345, R372). -/
def Gate.isInterrupt (g : Gate) : Bool := !g.type.getLsbD 0

/-! ### Codes of `activity` and of interrupt types -/

/-- The activity state of an `ACTIVITY` argument (R53, R249). -/
def activityOf (a : BitVec 3) : Option Activity :=
  match a with
  | 0#3 => some .active
  | 1#3 => some .hlt
  | 2#3 => some .shutdown
  | 3#3 => some .waitForSipi
  | 4#3 => some .mwait
  | 5#3 => some .mwaitIf
  | _ => none

/-- `soft`: the software-originated interrupt types 4 and 6 (R106). -/
def isSoft (type : BitVec 3) : Bool := type == 4#3 || type == 6#3

end Sys2Proof.Machine
end

