-- ==== Sys2Proof/Machine/Flags.lean ====
section
/-! DEFINITION. The flag computations: what a delivery, a rollback and a shutdown do to RFLAGS (spec/10_state.md R42).
No command computes an arithmetic flag. -/

namespace Sys2Proof.Machine

/-- RFLAGS bits by name (R42). -/
def maskIF : Word := 0x200#64
/-- RFLAGS.TF. -/
def maskTF : Word := 0x100#64
/-- RFLAGS.NT. -/
def maskNT : Word := 0x4000#64
/-- RFLAGS.RF. -/
def maskRF : Word := 0x10000#64
/-- RFLAGS.VM. -/
def maskVM : Word := 0x20000#64
/-- RFLAGS.AC. -/
def maskAC : Word := 0x40000#64

/-- Clear the bits of `m`. -/
def clearBits (v m : Word) : Word := v &&& ~~~m

/-- A real-mode delivery clears IF, TF, AC and RF (R300). -/
def flagsAfterReal (f : Word) : Word := clearBits f (maskIF ||| maskTF ||| maskAC ||| maskRF)

/-- A delivery through a gate clears TF, NT, VM and RF, and IF for an interrupt gate only (R345, R372). -/
def flagsAfterGate (interruptGate : Bool) (f : Word) : Word :=
  clearBits (if interruptGate then clearBits f maskIF else f) (maskTF ||| maskNT ||| maskVM ||| maskRF)

/-- The rollback of a fault sets RF (R268). -/
def flagsWithRF (f : Word) : Word := f ||| maskRF

/-- Shutdown clears IF (R249, R274). -/
def flagsWithoutIF (f : Word) : Word := clearBits f maskIF

end Sys2Proof.Machine
end

