-- ==== Sys2Proof/Machine/Masks.lean ====
section
/-! DEFINITION. The allow-masks derived from the configuration (spec/40_validators_cr.md R146,
spec/41_validators_msr_dr.md R161, R166, R170), the CR0 normalisation (R137), and the legality tests of the register
validators (R132, R141, R147, R167). -/

namespace Sys2Proof.Machine

/-- The mask `m` when `b`, nothing otherwise. -/
def maskIf (b : Bool) (m : Word) : Word := if b then m else 0#64

/-- `CR4_ALLOW` (R146). Bits 2 and 6 depend on `CPU_LEVEL` alone (log entry 22). -/
def cr4Allow (c : Config) : Word :=
  maskIf (c.has .vme) 0x3#64
    ||| maskIf (decide (5 ≤ c.cpuLevel.toNat)) 0x44#64
    ||| maskIf (c.has .de) 0x8#64
    ||| maskIf (c.has .pse) 0x10#64
    ||| maskIf (c.has .pae) 0x20#64
    ||| maskIf (c.has .pge) 0x80#64
    ||| maskIf (c.has .pce || decide (6 ≤ c.cpuLevel.toNat)) 0x100#64
    ||| maskIf (c.has .fxsr) 0x200#64
    ||| maskIf (c.has .sse) 0x400#64
    ||| maskIf (c.has .umip) 0x800#64
    ||| maskIf (c.has .la57) 0x1000#64
    ||| maskIf (c.has .vmx) 0x2000#64
    ||| maskIf (c.has .smx) 0x4000#64
    ||| maskIf (c.has .fsgsbase) 0x10000#64
    ||| maskIf (c.has .pcid) 0x20000#64
    ||| maskIf (c.has .xsave) 0x40000#64
    ||| maskIf (c.has .smep) 0x100000#64
    ||| maskIf (c.has .smap) 0x200000#64
    ||| maskIf (c.has .pku) 0x400000#64
    ||| maskIf (c.has .cet && c.cetSupported) 0x800000#64
    ||| maskIf (c.has .pks) 0x1000000#64

/-- `EFER_ALLOW` (R161). -/
def eferAllow (c : Config) : Word :=
  maskIf (c.has .x86_64) 0x501#64
    ||| maskIf (c.has .nx) 0x800#64
    ||| maskIf (c.has .svm) 0x1000#64
    ||| maskIf (c.has .lmsle) 0x2000#64
    ||| maskIf (c.has .ffxsr) 0x4000#64
    ||| maskIf (c.has .tce) 0x8000#64

/-- `XCR0_ALLOW` (R166). -/
def xcr0Allow (c : Config) : Word :=
  0x1#64
    ||| maskIf (c.has .sse) 0x2#64
    ||| maskIf (c.has .avx) 0x4#64
    ||| maskIf (c.has .mpx) 0x18#64
    ||| maskIf (c.has .avx512) 0xE0#64
    ||| maskIf (c.has .pku) 0x200#64

/-- `XSS_ALLOW` (R170). -/
def xssAllow (c : Config) : Word :=
  maskIf (c.has .pt) 0x100#64 ||| maskIf (c.has .cet) 0x1800#64

/-- `Norm0(v[31:0])`, zero-extended (R137). -/
def norm0 (level : CpuLevel) (v : Word) : Word :=
  let w : BitVec 32 := v.setWidth 32
  match level with
  | .l3 => (w ||| 0x7FFFFFF0#32).setWidth 64
  | .l4 => ((w ||| 0x10#32) &&& 0xE005003F#32).setWidth 64
  | .l5 => (w ||| 0x10#32).setWidth 64
  | .l6 => ((w ||| 0x10#32) &&& 0xE005003F#32).setWidth 64

/-- `LegalCR0(v)`: none of the four reasons of R132, with the SVM exception of R133. -/
def legalCr0 (s : State) (v : Word) : Bool :=
  v.extractLsb' 32 32 == 0#32
    && !(v.getLsbD 31 && !v.getLsbD 0 && !s.inp.inSvmGuest)
    && !(v.getLsbD 29 && !v.getLsbD 30 && decide (4 ≤ s.cfg.cpuLevel.toNat))
    && !(!v.getLsbD 16 && s.regs.cet)

/-- `LegalCR4(v)`: none of the seven reasons of R147. -/
def legalCr4 (s : State) (v : Word) : Bool :=
  v &&& ~~~(cr4Allow s.cfg) == 0#64
    && !(s.longMode && !v.getLsbD 5)
    && !(!s.longMode && v.getLsbD 17)
    && !(v.getLsbD 17 && !s.regs.pcide && s.regs.cr3.extractLsb' 0 12 != 0#12)
    && !(!v.getLsbD 13 && s.regs.vmxe && s.inp.inGuest)
    && !(v.getLsbD 13 && s.inp.inSmm)
    && !(v.getLsbD 23 && !s.regs.wp)

/-- `LegalXCR0(v)`: none of the six reasons of R167. -/
def legalXcr0 (c : Config) (v : Word) : Bool :=
  v &&& ~~~(xcr0Allow c) == 0#64
    && v.getLsbD 0
    && !(v.getLsbD 2 && !v.getLsbD 1)
    && v.getLsbD 3 == v.getLsbD 4
    && !((v.getLsbD 5 || v.getLsbD 6 || v.getLsbD 7) && !(v.getLsbD 5 && v.getLsbD 6 && v.getLsbD 7))
    && !(v.getLsbD 5 && !v.getLsbD 2)

/-- Every bit from 63 down to `PHY_ADDR_WIDTH` (R141, R142). -/
def abovePhys (c : Config) : Word := BitVec.allOnes 64 <<< c.phyAddrWidth

/-- The reserved bits of a present PDPTE (R142). -/
def pdpteReserved (c : Config) : Word := 0x1E6#64 ||| abovePhys c

/-- A PDPTE that the test of R142 rejects: present with a reserved bit set. -/
def pdpteBad (c : Config) (e : Word) : Bool := e.getLsbD 0 && e &&& pdpteReserved c != 0#64

/-- The value DR6 takes on a write (R174, R176): up to level 4 bit 12 too, where R28 says that it reads 0 (log entry 34). -/
def dr6Write (level : CpuLevel) (old v : Word) : Word :=
  (old &&& 0xFFFF0FF0#64) ||| (v &&& (if level.toNat ≤ 4 then 0xF00F#64 else 0xE00F#64))

/-- The value DR7 takes on a write (R174, R177): up to level 4 bits 12, 14 and 15 too, where R28 and decision D15 have them
read 0 (log entry 34). -/
def dr7Write (level : CpuLevel) (v : Word) : Word :=
  (v &&& (if level.toNat ≤ 4 then 0xFFFFFFFF#64 else 0xFFFF2FFF#64)) ||| 0x400#64

end Sys2Proof.Machine
end

