-- ==== Sys2Proof/Machine/Memory.lean ====
section
/-! DEFINITION. Byte memories in canonical form and the little-endian values in them (spec/20_memory.md R70, R77). -/

namespace Sys2Proof.Machine

/-- The byte at address `a`. -/
def Memory.get : Memory → Nat → Byte
  | [], _ => Memory.unlisted
  | (k, b) :: rest, a => if k = a then b else Memory.get rest a

/-- The cell `(a, b)` in front of `m`, unless the byte is the one an unlisted address reads as. -/
def Memory.consCell (a : Nat) (b : Byte) (m : Memory) : Memory := if b == Memory.unlisted then m else (a, b) :: m

/-- Store the byte `b` at address `a`, keeping the canonical form. -/
def Memory.set : Memory → Nat → Byte → Memory
  | [], a, b => Memory.consCell a b []
  | (k, c) :: rest, a, b =>
    if a < k then Memory.consCell a b ((k, c) :: rest)
    else if a = k then Memory.consCell a b rest
    else (k, c) :: Memory.set rest a b

/-- The `n` bytes from `addr` on as one number, the byte at the lowest address in bits 7 to 0 (R77). Addresses wrap. -/
def Memory.readLE (m : Memory) (addr : Word) : Nat → Word
  | 0 => 0#64
  | n + 1 => (m.get addr.toNat).setWidth 64 ||| (Memory.readLE m (addr + 1#64) n <<< 8)

/-- Store the low `n` bytes of `v` from `addr` on (R73, R77). Addresses wrap. -/
def Memory.writeLE (m : Memory) (addr : Word) : Nat → Word → Memory
  | 0, _ => m
  | n + 1, v => Memory.writeLE (m.set addr.toNat (v.setWidth 8)) (addr + 1#64) n (v >>> 8)

end Sys2Proof.Machine
end

