-- ==== Sys2Proof/Machine/Ops.lean ====
section
/-! DEFINITION. The named operations: how a command runs and ends (spec/00_scope.md R7, spec/30_encoding.md R102, R110),
the memory port (spec/20_memory.md), the intercept queries (spec/43_intercept_layer.md), the stack primitives
(spec/46_delivery_common_real.md), the three delivery routines (files 46, 47, 48), and TAKING AN EXCEPTION as the one
operation `exception` (spec/45_exception_preprocessing.md R262). The block has no return command: IRET is the core's
(R389), seen here as a host action that rewrites the context and an `EVMASK`. -/

namespace Sys2Proof.Machine

/-! ### How a command runs -/

/-- The kinds a command can end in (R110), with what its response carries (R102, R330). -/
inductive Answer where
  | ok (res : Word)
  | deny
  | delivered (v : Vector8)
  | vmexit
  | halted
  | killed
  | reset
  | shutdown
  | smmEntry
  | taskSw (v : Vector8) (selector : Half)
  | abort
  deriving DecidableEq, Repr

/-- What makes a running command leave its rule: a `raise`, an `outcome` (R7), or a stop of the model. -/
inductive Stop where
  | raise (v : Vector8) (ec : Half)
  | done (a : Answer)
  | refuse (r : Refusal)
  | depth
  deriving DecidableEq, Repr

/-- A running command: the state it leaves is kept when it leaves its rule (R8). -/
abbrev M := EStateM Stop State

/-- `raise #XX(ec)` (R7). -/
def raise {α : Type} (v : Vector8) (ec : Half) : M α := throw (.raise v ec)

/-- `if c: raise #XX(ec)`. -/
def raiseIf (c : Bool) (v : Vector8) (ec : Half) : M Unit := if c then raise v ec else pure ()

/-- `outcome K(...)` (R7). -/
def finish {α : Type} (a : Answer) : M α := throw (.done a)

/-- `emit E(...)` (R7, R60). -/
def emit (e : Event) : M Unit := modify fun s => s.setHist (s.hist ++ [e])

/-- Write control registers. -/
def modifyRegs (f : ControlRegs → ControlRegs) : M Unit := modify fun s => s.setRegs (f s.regs)

/-- Write registers of the shared context. -/
def modifyCtx (f : Context → Context) : M Unit := modify fun s => s.setCtx (f s.ctx)

/-- Write scheduler state. -/
def modifySched (f : Sched → Sched) : M Unit := modify fun s => s.setSched (f s.sched)

/-- Write exception state. -/
def modifyExc (f : ExcState → ExcState) : M Unit := modify fun s => s.setExc (f s.exc)

/-- `outcome ABORT(reason)` (R404). -/
def abort {α : Type} (r : AbortReason) : M α := do
  modify fun s => s.setAborted true
  emit (.abort r)
  finish .abort

/-- `if c: outcome ABORT(reason)`. -/
def abortIf (c : Bool) (r : AbortReason) : M Unit := if c then abort r else pure ()

/-- The exception state with the three resets that R212 and R427 leave to the host of a VM exit. -/
def excIdle (e : ExcState) : ExcState := { e with inEvent := false, extBit := false, lastType := .benign }

/-- `outcome VMEXIT(reason, qualification)`, with the three resets a model must apply (R212). -/
def vmExit {α : Type} (i : ExitInfo) : M α := do
  emit (.vmExit i.reason i.qualification)
  modifyExc excIdle
  finish .vmexit

/-- `ModeChange(Mode())` (R138). -/
def emitMode : M Unit := do
  let s ← get
  emit (.modeChange s.mode)

/-- Run `m`; where it raises, hand the exception to `h`; where it ends normally, go on with `k`. -/
def onRaise {α β : Type} (m : M α) (k : α → M β) (h : Vector8 → Half → M β) : M β := fun s =>
  match m s with
  | .ok a s' => k a s'
  | .error (.raise v ec) s' => h v ec s'
  | .error (.done a) s' => .error (.done a) s'
  | .error (.refuse r) s' => .error (.refuse r) s'
  | .error .depth s' => .error .depth s'

/-- The kind number `K` of R110. -/
def Answer.kind : Answer → BitVec 4
  | .ok _ => 0#4
  | .deny => 1#4
  | .delivered _ => 2#4
  | .vmexit => 3#4
  | .halted => 4#4
  | .killed => 5#4
  | .reset => 6#4
  | .shutdown => 7#4
  | .smmEntry => 8#4
  | .taskSw _ _ => 9#4
  | .abort => 15#4

/-- `RESP[7:0]`: the vector where R110 gives one. -/
def Answer.vector : Answer → Vector8
  | .delivered v => v
  | .taskSw v _ => v
  | _ => 0#8

/-- `RES` (R102, R330). For `VMEXIT` and `ABORT` it is the token of the payload, the last entry of `hist` (log entry 3). -/
def Answer.res (hist : List Event) : Answer → Word
  | .ok r => r
  | .taskSw _ sel => sel.setWidth 64
  | .vmexit => Config.resToken (hist.length - 1)
  | .abort => Config.resToken (hist.length - 1)
  | _ => 0#64

/-- Give the response (R102). -/
def State.respond (s : State) (a : Answer) : State :=
  s.setResponse ⟨a.kind ++ 0#20 ++ a.vector, a.res s.hist⟩

/-! ### The memory port (R71 to R78) -/

/-- The paging service's answer to the next linear access: `none` is `ok`, and so is every access after the listed
answers (R72, log entry 7). -/
def portAnswer : M (Option Half) :=
  modifyGet fun s => (s.port.head?.join, s.setPort s.port.tail)

/-- A page fault on a port access: `CR2 <- addr`, then `raise #PF(ec)` (R76). -/
def portFault {α : Type} (addr : Word) (ec : Half) : M α := do
  modifyRegs fun r => { r with cr2 := addr }
  raise 14#8 ec

/-- Let the access to `addr` go on, or take its page fault (R72, R76). -/
def portAccess (addr : Word) : M Unit := do
  match ← portAnswer with
  | none => pure ()
  | some ec => portFault addr ec

/-- `MemRead(addr, n, acc)` (R72). The entry in `hist` stands for a failing read too (log entry 11). -/
def memRead (addr : Word) (n : Nat) (acc : Acc) : M Word := do
  emit (.memR addr n acc)
  portAccess addr
  let s ← get
  pure (s.mem.readLE addr n)

/-- `MemWrite(addr, n, v, acc)` (R73). -/
def memWrite (addr : Word) (n : Nat) (v : Word) (acc : Acc) : M Unit := do
  portAccess addr
  modify fun s => s.setMem (s.mem.writeLE addr n v)
  emit (.memW addr n v acc)

/-- `PhysRead(paddr, 8)` (R74). -/
def physRead (paddr : Word) : M Word := do
  emit (.memR paddr 8 .phys)
  let s ← get
  pure (s.phys.readLE paddr 8)

/-- The low `n` bytes of a value (R295, R328). -/
def truncBytes (n : Nat) (v : Word) : Word := v &&& (BitVec.allOnes 64 >>> (64 - 8 * n))

/-! ### The intercept layer (R205 to R212) -/

/-- The layer answers `Pass` to everything when `NESTED = None` or `in_guest = 0` (R205). -/
def State.icptOn (s : State) : Bool := s.cfg.nested != .none && s.inp.inGuest

/-- The SVM CR0-write intercept, plain and selective: whether a CR0 write answers `Exit` (R155; the reason where both fire
is log entry 9). -/
def svmCr0Write (i : Inputs) (old new : Word) : RegAnswer :=
  if i.inSvmGuest && i.icpt.cr0Write then .exit ⟨.cr0Write, i.icpt.cr0Qual⟩
  else if i.inSvmGuest && i.icpt.cr0SelWrite && (old ^^^ new) &&& ~~~0xA#64 != 0#64 then
    .exit ⟨.cr0SelectiveWrite, i.icpt.cr0Qual⟩
  else .pass

/-- The layer's answer to a register query (R206, R208). -/
def regAnswer (s : State) (q : RegQuery) : RegAnswer :=
  if s.icptOn then (s.inp.icpt.regs.lookup q).getD .pass else .pass

/-- A CR0 write under SVM: `Exit` exactly where R155 says so, and otherwise what R206 leaves, `Handled` where the layer
lists it and `Pass` elsewhere; an `Exit` that the layer lists for it is not taken (log entry 31). -/
def svmCr0Answer (fires listed : RegAnswer) : RegAnswer :=
  match fires, listed with
  | .exit i, _ => .exit i
  | _, .handled x b => .handled x b
  | _, _ => .pass

/-- `IcptCR(n, dir, old, new)` (R206); for a CR0 write under SVM with the exits of R155 (log entry 31). -/
def icptCr (s : State) (n : CrNum) (dir : Dir) (old new : Word) : RegAnswer :=
  if s.icptOn && s.cfg.nested == .svm && n == .cr0 && dir == .write then
    svmCr0Answer (svmCr0Write s.inp old new) (regAnswer s (.cr n dir old new))
  else regAnswer s (.cr n dir old new)

/-- `IcptReg(r, dir, old, new)` (R208). -/
def icptReg (s : State) (r : MsrNum) (dir : Dir) (old new : Word) : RegAnswer := regAnswer s (.msr r dir old new)

/-- The layer's answer to a query that cannot be handled: `none` is `Pass` (R207, R209 to R211). -/
def plainAnswer (s : State) (q : PlainQuery) : Option ExitInfo :=
  if s.icptOn then s.inp.icpt.plain.lookup q else none

/-- What `ApicVirtTrap(e)`, the VMX host's internal action, answers: `none` is `Pass` (R232). It is no query (R211), so
`in_guest` does not matter to it; without a VMX host it is `Pass` (log entry 36). -/
def apicTrapAnswer (s : State) (e : Nat) : Option ExitInfo :=
  if s.cfg.nested == .vmx then s.inp.apicTraps.lookup e else none

/-- `case query of Exit(r,q): outcome VMEXIT(r,q) | Pass: continue`. -/
def obeyPlain (a : Option ExitInfo) : M Unit :=
  match a with
  | none => pure ()
  | some i => vmExit i

/-- Ask a plain query in the present state and obey the answer. -/
def askPlain (q : PlainQuery) : M Unit := do
  let s ← get
  obeyPlain (plainAnswer s q)

/-- `IcptExc(v, ec, push, type)` (R209): the layer may read `EXT` and `in_event`. -/
def askExc (v : Vector8) (ec : Half) (push : Bool) (type : BitVec 3) : M Unit := do
  let s ← get
  obeyPlain (plainAnswer s (.exc v ec push type s.exc.extBit s.exc.inEvent))

/-- `case … of Exit: outcome VMEXIT | Handled: outcome OK | Pass: continue`, for a write (R130). -/
def obeyWrite (a : RegAnswer) : M Unit :=
  match a with
  | .pass => pure ()
  | .exit i => vmExit i
  | .handled _ _ => finish (.ok 0#64)

/-- `case … of Exit: outcome VMEXIT | Handled(x): RES <- x | Pass: RES <- cur`, for a read (R153). -/
def obeyRead (a : RegAnswer) (cur : Word) : M Answer :=
  match a with
  | .pass => pure (.ok cur)
  | .exit i => vmExit i
  | .handled x _ => pure (.ok x)

/-- `if CPL != 0: raise #GP(0)` (R130, stage 2). -/
def requireCpl0 : M Unit := do
  let s ← get
  raiseIf (s.ctx.cpl != 0#2) 13#8 0#16

/-! ### Reset (R410, R411) -/

/-- The inputs after `ResetState`: the five the host drives take their R411 values, `kill_request` is not touched. -/
def resetInputs (i : Inputs) : Inputs :=
  { i with inGuest := false, inSvmGuest := false, inSmm := false, gif := true, svmVIntrMasking := false }

/-- `ResetState()` (R410): every element of R411; `hist`, `kill_request`, the configuration and what is not the
block's stay (log entry 19). -/
def resetState (s : State) : State :=
  { s with
    regs := ControlRegs.reset
    ctx := Context.reset
    sched := Sched.reset
    exc := ExcState.reset
    tpr := 0#8
    inp := resetInputs s.inp
    aborted := false }

/-! ### The stack (R295, R296) -/

/-- A stack pointer modulo 2^W, where W is 32 for `d_b = 1` and 16 otherwise (R295). -/
def wrapSp (w32 : Bool) (x : Word) : Word := x &&& (if w32 then 0xFFFFFFFF#64 else 0xFFFF#64)

/-- RSP with its low W bits replaced (R295: "bits above W are unchanged"). -/
def mergeSp (w32 : Bool) (rsp t : Word) : Word :=
  clearBits rsp (if w32 then 0xFFFFFFFF#64 else 0xFFFF#64) ||| t

/-- A linear address outside long mode, truncated to 32 bits (R295, log entry 12). -/
def legacyAddr (base off : Word) : Word := (base + off) &&& 0xFFFFFFFF#64

/-- The stack-segment limit check (R296); the sum is taken without wrap. -/
def stackOk (d : Desc) (off : Word) (n : Nat) : Bool :=
  let last := off.toNat + n - 1
  if !d.type.getLsbD 2 then decide (last ≤ d.limit.toNat)
  else decide (d.limit.toNat < off.toNat) && decide (last ≤ (if d.db then 0xFFFFFFFF else 0xFFFF))

/-- `CheckStack(seg, off, n)`, raising #SS(e) (R296). -/
def checkStack (d : Desc) (off : Word) (n : Nat) (e : Half) : M Unit := raiseIf (!stackOk d off n) 12#8 e

/-- `Push_n(x)` on the current stack outside long mode (R295). -/
def push (n : Nat) (x : Word) : M Unit := do
  let s ← get
  let d := s.ctx.ss.cache
  let t := wrapSp d.db (s.ctx.rsp - BitVec.ofNat 64 n)
  checkStack d t n 0#16
  memWrite (legacyAddr d.base t) n (truncBytes n x) (.stack s.ctx.cpl)
  modifyCtx fun c => { c with rsp := mergeSp d.db c.rsp t }

/-- The frame of an inner delivery on the new stack `d`, from the pointer `t` down (R332, R335). -/
def pushInner (d : Desc) (e : Half) (n : Nat) (pl : BitVec 2) : List Word → Word → M Word
  | [], t => pure t
  | x :: xs, t => do
    let t' := wrapSp d.db (t - BitVec.ofNat 64 n)
    checkStack d t' n e
    memWrite (legacyAddr d.base t') n (truncBytes n x) (.stack pl)
    pushInner d e n pl xs t'

/-- The long-mode frame from the pointer `t` down (R355, R366). -/
def pushLong (pl : BitVec 2) : List Word → Word → M Word
  | [], t => pure t
  | x :: xs, t => do
    let t' := t - 8#64
    raiseIf (!canonical t') 12#8 0#16
    memWrite t' 8 x (.stack pl)
    pushLong pl xs t'

/-! ### Segment loads (R301, R340, R341, R343, R369) -/

/-- A segment register loaded with descriptor `d` and RPL `pl` (R340, R341). -/
def loadSeg (sel : Half) (d : Desc) (pl : BitVec 2) : SegReg := ⟨withRpl sel pl, true, { d with s := true, p := true }⟩

/-- `LoadCS(sel, c, pl)` (R340). -/
def loadCs (sel : Half) (d : Desc) (pl : BitVec 2) : M Unit :=
  modifyCtx fun c => { c with cs := loadSeg sel d pl, cpl := pl }

/-- A nulled data segment (R343). -/
def nullSeg (r : SegReg) : SegReg := { r with sel := 0#16, valid := false }

/-! ### Real-mode delivery (R297 to R303) -/

/-- The end of a real-mode delivery: CS, RIP and the flags (R300, R301). -/
def realEnter (newCs newIp : Word) (c : Context) : Context :=
  { c with
    cs := ⟨newCs.setWidth 16, true, { c.cs.cache with base := newCs <<< 4 }⟩
    rip := newIp
    rflags := flagsAfterReal c.rflags }

/-- `RealModeInt(v, push, ec)` (R297); a real-mode frame has no error code (R275). -/
def realModeInt (v : Vector8) : M Unit := do
  let s ← get
  raiseIf (decide (s.ctx.idtr.limit.toNat < 4 * v.toNat + 3)) 13#8 0#16
  push 2 s.ctx.rflags
  push 2 (s.ctx.cs.sel.setWidth 64)
  push 2 s.ctx.rip
  let entry := s.ctx.idtr.base + (v.setWidth 64 <<< 2)
  let newIp ← memRead entry 2 .sys
  raiseIf (decide (s.ctx.cs.cache.limit.toNat < newIp.toNat)) 13#8 0#16
  let newCs ← memRead (entry + 2#64) 2 .sys
  modifyCtx (realEnter newCs newIp)

/-! ### Protected-mode and V8086 delivery (file 47) -/

/-- A delivery that would have to do shadow-stack bookkeeping is outside the spec (R344, R371, D29, log entry 21). -/
def cetGuard : M Unit := do
  let s ← get
  if s.cfg.cetSupported && s.regs.cet then throw (.refuse .cetNotSpecified) else pure ()

/-- `FetchDesc(sel, x)` from the GDT (R323). -/
def fetchGdt (sel : Half) (x : Vector8) : M Word := do
  let s ← get
  let off := 8 * (sel.toNat / 8)
  raiseIf (decide (s.ctx.gdtr.limit.toNat < off + 7)) x (selCode sel)
  memRead (s.ctx.gdtr.base + BitVec.ofNat 64 off) 8 .sys

/-- `FetchDesc(sel, x)` from the LDT (R323). -/
def fetchLdt (sel : Half) (x : Vector8) : M Word := do
  let s ← get
  let off := 8 * (sel.toNat / 8)
  raiseIf (!s.ctx.ldtr.valid) x (selCode sel)
  raiseIf (decide (s.ctx.ldtr.cache.limit.toNat < off + 7)) x (selCode sel)
  memRead (s.ctx.ldtr.cache.base + BitVec.ofNat 64 off) 8 .sys

/-- `FetchDesc(sel, x)` (R323). -/
def fetchDesc (sel : Half) (x : Vector8) : M Word := if sel.getLsbD 2 then fetchLdt sel x else fetchGdt sel x

/-- `TaskGate(g, push, ec)` (R330), reached by a delivery of `v`. -/
def taskGate (v : Vector8) (t : Half) (push : Bool) (ec : Half) : M Unit := do
  raiseIf (t.getLsbD 2) 13#8 (selCode t)
  let d ← fetchDesc t 13#8
  let d := parseDesc d
  raiseIf (d.s || !(d.type == 1#4 || d.type == 9#4)) 13#8 (selCode t)
  raiseIf (!d.p) 11#8 (selCode t)
  emit (.taskSwitch t d push ec)
  finish (.taskSw v t)

/-- The stack for level `pl` from a 32-bit TSS (R333): the SS field is read first. -/
def tssStack32 (pl : BitVec 2) : M (Half × Word) := do
  let s ← get
  let a := 8 * pl.toNat + 4
  raiseIf (decide (s.ctx.tr.cache.limit.toNat < a + 7)) 10#8 (selCode s.ctx.tr.sel)
  let nss ← memRead (s.ctx.tr.cache.base + BitVec.ofNat 64 (a + 4)) 2 .sys
  let nesp ← memRead (s.ctx.tr.cache.base + BitVec.ofNat 64 a) 4 .sys
  pure (nss.setWidth 16, nesp)

/-- The stack for level `pl` from a 16-bit TSS (R333). -/
def tssStack16 (pl : BitVec 2) : M (Half × Word) := do
  let s ← get
  let a := 4 * pl.toNat + 2
  raiseIf (decide (s.ctx.tr.cache.limit.toNat < a + 3)) 10#8 (selCode s.ctx.tr.sel)
  let nss ← memRead (s.ctx.tr.cache.base + BitVec.ofNat 64 (a + 2)) 2 .sys
  let nesp ← memRead (s.ctx.tr.cache.base + BitVec.ofNat 64 a) 2 .sys
  pure (nss.setWidth 16, nesp)

/-- The type of a 32-bit TSS, available or busy (R193, R333). -/
def isTss32 (t : BitVec 4) : Bool := t == 9#4 || t == 11#4

/-- The type of a 16-bit TSS, available or busy (R333). -/
def isTss16 (t : BitVec 4) : Bool := t == 1#4 || t == 3#4

/-- `TssStack(pl)` (R333). -/
def tssStack (pl : BitVec 2) : M (Half × Word) := do
  let s ← get
  abortIf (!s.ctx.tr.valid) .trInvalid
  if isTss32 s.ctx.tr.cache.type then tssStack32 pl
  else if isTss16 s.ctx.tr.cache.type then tssStack16 pl
  else abort .trType

/-- The values an inner delivery pushes, highest address first (R332, R335). -/
def innerFrame (c : Context) (push : Bool) (ec : Half) : List Word :=
  (if c.vm then [c.gs.sel.setWidth 64, c.fs.sel.setWidth 64, c.ds.sel.setWidth 64, c.es.sel.setWidth 64] else [])
    ++ [c.ss.sel.setWidth 64, c.rsp, c.rflags, c.cs.sel.setWidth 64, c.rip]
    ++ (if push then [ec.setWidth 64] else [])

/-- The register loads at the end of an inner delivery, in the order of R336: SS, RSP, and from V8086 the data
segments. -/
def innerEnter (nss : Half) (d : Desc) (pl : BitVec 2) (t : Word) (c : Context) : Context :=
  let c' := { c with ss := loadSeg nss d pl, rsp := if d.db then t else mergeSp false c.rsp t }
  if c.vm then { c' with gs := nullSeg c.gs, fs := nullSeg c.fs, ds := nullSeg c.ds, es := nullSeg c.es } else c'

/-- `InnerDelivery` (R332). -/
def innerDelivery (g : Gate) (c : Desc) (big push : Bool) (ec : Half) : M Unit := do
  let pl := c.dpl
  let (nss, nesp) ← tssStack pl
  let s ← get
  raiseIf (s.ctx.vm && pl != 0#2) 13#8 (selCode g.selector)
  raiseIf (selCode nss == 0#16) 10#8 0#16
  let d ← fetchDesc nss 10#8
  let d := parseDesc d
  raiseIf (nss.extractLsb' 0 2 != pl) 10#8 (selCode nss)
  raiseIf (d.dpl != pl) 10#8 (selCode nss)
  raiseIf (!d.writableData) 10#8 (selCode nss)
  raiseIf (!d.p) 12#8 (selCode nss)
  raiseIf (decide (c.limit.toNat < g.offset.toNat)) 13#8 0#16
  let t ← pushInner d (selCode nss) (if big then 4 else 2) pl (innerFrame s.ctx push ec) (wrapSp d.db nesp)
  loadCs g.selector c pl
  modifyCtx (innerEnter nss d pl t)

/-- `if push: Push_n(zext(ec))` (R337). -/
def pushErrorCode (push' : Bool) (n : Nat) (ec : Half) : M Unit :=
  if push' then push n (ec.setWidth 64) else pure ()

/-- `SameLevelDelivery` (R337). -/
def sameLevelDelivery (g : Gate) (c : Desc) (big push' : Bool) (ec : Half) : M Unit := do
  let s ← get
  raiseIf s.ctx.vm 13#8 (selCode g.selector)
  raiseIf (decide (c.limit.toNat < g.offset.toNat)) 13#8 0#16
  let n := if big then 4 else 2
  push n s.ctx.rflags
  push n (s.ctx.cs.sel.setWidth 64)
  push n s.ctx.rip
  pushErrorCode push' n ec
  loadCs g.selector c s.ctx.cpl

/-- Whether the transfer is privilege-raising (R331). -/
def isInner (c : Desc) (cpl : BitVec 2) : Bool := !c.conforming && decide (c.dpl < cpl)

/-- The choice between inner and same-level delivery (R331). -/
def enterLevel (g : Gate) (c : Desc) (push : Bool) (ec : Half) : M Unit := do
  let s ← get
  let big := decide (14#4 ≤ g.type)
  if isInner c s.ctx.cpl then innerDelivery g c big push ec else sameLevelDelivery g c big push ec

/-- The instruction pointer and the flags at the end of a delivery through a gate (R345, R372). -/
def gateEnter (g : Gate) (c : Context) : Context :=
  { c with rip := g.offset, rflags := flagsAfterGate g.isInterrupt c.rflags }

/-- The transfer through an interrupt or trap gate, after the gate's own tests (R320, R329). -/
def protGate (g : Gate) (push : Bool) (ec : Half) : M Unit := do
  raiseIf (selCode g.selector == 0#16) 13#8 0#16
  let c ← fetchDesc g.selector 13#8
  let c := parseDesc c
  let s ← get
  raiseIf (!c.isCode || decide (s.ctx.cpl < c.dpl)) 13#8 (selCode g.selector)
  raiseIf (!c.p) 11#8 (selCode g.selector)
  enterLevel g c push ec
  modifyCtx (gateEnter g)

/-- A gate type of the protected-mode IDT (R325). -/
def isProtGateType (t : BitVec 4) : Bool := t == 5#4 || t == 6#4 || t == 7#4 || t == 14#4 || t == 15#4

/-- A task gate hands over; the other gates transfer (R320). -/
def protDispatch (v : Vector8) (g : Gate) (push : Bool) (ec : Half) : M Unit :=
  if g.type == 5#4 then taskGate v g.selector push ec else protGate g push ec

/-- `ProtModeInt(v, soft, push, ec)` (R320). -/
def protModeInt (v : Vector8) (soft push : Bool) (ec : Half) : M Unit := do
  cetGuard
  let s ← get
  raiseIf (decide (s.ctx.idtr.limit.toNat < 8 * v.toNat + 7)) 13#8 (idtCode v)
  let q ← memRead (s.ctx.idtr.base + (v.setWidth 64 <<< 3)) 8 .sys
  let g := parseGate q
  raiseIf (g.s || !isProtGateType g.type) 13#8 (idtCode v)
  raiseIf (soft && decide (g.dpl < s.ctx.cpl)) 13#8 (idtCode v)
  raiseIf (!g.p) 11#8 (idtCode v)
  protDispatch v g push ec

/-! ### Long-mode delivery (file 48) -/

/-- `TssRsp(k)` (R363). -/
def tssRsp (k : Nat) : M Word := do
  let s ← get
  abortIf (!s.ctx.tr.valid) .trInvalid
  abortIf (!isTss32 s.ctx.tr.cache.type) .trType
  raiseIf (decide (s.ctx.tr.cache.limit.toNat < 8 * k + 4 + 7)) 10#8 (selCode s.ctx.tr.sel)
  memRead (s.ctx.tr.cache.base + BitVec.ofNat 64 (8 * k + 4)) 8 .sys

/-- The stack pointer a long-mode delivery starts from (R364). -/
def longStack (ist : BitVec 3) (inner : Bool) (pl : BitVec 2) : M Word := do
  let s ← get
  if ist != 0#3 then tssRsp (ist.toNat + 3)
  else if inner then tssRsp pl.toNat
  else pure s.ctx.rsp

/-- The long-mode frame, highest address first (R367). -/
def longFrame (c : Context) (push : Bool) (ec : Half) : List Word :=
  [c.ss.sel.setWidth 64, c.rsp, c.rflags, c.cs.sel.setWidth 64, c.rip] ++ (if push then [ec.setWidth 64] else [])

/-- The register loads at the end of a long-mode delivery (R369, R370). -/
def longEnter (g : Gate) (inner : Bool) (pl : BitVec 2) (t : Word) (c : Context) : Context :=
  gateEnter g
    { c with
      ss := if inner then { c.ss with sel := pl.setWidth 16, valid := false } else c.ss
      rsp := t }

/-- The transfer through a 64-bit gate, after the gate's own tests (R355, R362 to R369). -/
def longGate (g : Gate) (push : Bool) (ec : Half) : M Unit := do
  raiseIf (selCode g.selector == 0#16) 13#8 0#16
  let c ← fetchDesc g.selector 13#8
  let c := parseDesc c
  let s ← get
  raiseIf (!c.isCode || decide (s.ctx.cpl < c.dpl)) 13#8 (selCode g.selector)
  raiseIf (!c.l || c.db) 13#8 (selCode g.selector)
  raiseIf (!c.p) 11#8 (selCode g.selector)
  let inner := isInner c s.ctx.cpl
  let pl := if inner then c.dpl else s.ctx.cpl
  let e ← longStack g.ist inner pl
  let t ← pushLong pl (longFrame s.ctx push ec) (clearBits e 0xF#64)
  raiseIf (!canonical g.offset) 13#8 0#16
  loadCs g.selector c pl
  modifyCtx (longEnter g inner pl t)

/-- `LongModeInt(v, soft, push, ec)` (R355). -/
def longModeInt (v : Vector8) (soft push : Bool) (ec : Half) : M Unit := do
  cetGuard
  let s ← get
  raiseIf (decide (s.ctx.idtr.limit.toNat < 16 * v.toNat + 15)) 13#8 (idtCode v)
  let entry := s.ctx.idtr.base + (v.setWidth 64 <<< 4)
  let q0 ← memRead entry 8 .sys
  let q1 ← memRead (entry + 8#64) 8 .sys
  raiseIf (q1.extractLsb' 40 5 != 0#5) 13#8 (idtCode v)
  let g := parseLongGate q0 q1
  raiseIf (g.s || !(g.type == 14#4 || g.type == 15#4)) 13#8 (idtCode v)
  raiseIf (soft && decide (g.dpl < s.ctx.cpl)) 13#8 (idtCode v)
  raiseIf (!g.p) 11#8 (idtCode v)
  longGate g push ec

/-! ### The common delivery entry (R292) -/

/-- The routine of a legacy mode (R292). -/
def legacyInt (v : Vector8) (soft push : Bool) (ec : Half) : M Unit := do
  let s ← get
  if s.regs.pe then protModeInt v soft push ec else realModeInt v

/-- A legacy delivery between its snapshot and the end of it (R292). -/
def legacyDelivery (v : Vector8) (soft push : Bool) (ec : Half) : M Unit := do
  modify fun s => s.setExc { s.exc with prevRsp := s.ctx.rsp, prevSsp := s.ctx.ssp, specRsp := true }
  legacyInt v soft push ec
  modifyExc fun e => { e with specRsp := false }

/-- The mode routine of a delivery (R292): EFER.LMA decides first. -/
def modeInt (v : Vector8) (soft push : Bool) (ec : Half) : M Unit := do
  let s ← get
  if s.regs.lma then longModeInt v soft push ec else legacyDelivery v soft push ec

/-- `Deliver(v, type, push, ec)` (R292, R293). -/
def deliver (v : Vector8) (type : BitVec 3) (push : Bool) (ec : Half) : M Unit := do
  modifySched fun d => { d with debugTrap := 0#16, inhibit := 0#2 }
  modifyExc fun e => { e with inEvent := true }
  modeInt v (isSoft type) push ec
  modify fun s => s.setExc { s.exc with inEvent := false, extBit := false, prevRip := s.ctx.rip }
  emit (.delivered v type)

/-! ### Taking an exception (R260 to R275) -/

/-- `eclass` of R264: it decides only the rollback. -/
inductive FaultKind where
  | fault
  | trap
  | abort
  deriving DecidableEq, Repr

/-- A row of `EXC_INFO` (R264). -/
structure ExcInfo where
  etype : ExcClass
  kind : FaultKind
  push : Bool
  deriving DecidableEq, Repr

/-- `EXC_INFO[v]` (R264). -/
def excInfo (v : Vector8) : ExcInfo :=
  match v with
  | 0#8 => ⟨.contributory, .fault, false⟩
  | 3#8 => ⟨.benign, .trap, false⟩
  | 4#8 => ⟨.benign, .trap, false⟩
  | 8#8 => ⟨.doubleFault, .fault, true⟩
  | 10#8 => ⟨.contributory, .fault, true⟩
  | 11#8 => ⟨.contributory, .fault, true⟩
  | 12#8 => ⟨.contributory, .fault, true⟩
  | 13#8 => ⟨.contributory, .fault, true⟩
  | 14#8 => ⟨.pageFault, .fault, true⟩
  | 17#8 => ⟨.benign, .fault, true⟩
  | 18#8 => ⟨.benign, .abort, false⟩
  | 20#8 => ⟨.pageFault, .fault, false⟩
  | 21#8 => ⟨.contributory, .fault, true⟩
  | _ => ⟨.benign, .fault, false⟩

/-- `COMPAT_OK[first][second]` (R272). The row and the column DOUBLE_FAULT are never consulted. -/
def compatOk : ExcClass → ExcClass → Bool
  | .benign, _ => true
  | .contributory, .contributory => false
  | .contributory, _ => true
  | .pageFault, .benign => true
  | .pageFault, _ => false
  | .doubleFault, _ => false

/-- The EXT fix-up of the error code (R265). The code that #DF and #AC push is what this leaves of the code they are given,
although R264 notes it as "always 0" (log entry 32). -/
def fixErrorCode (v : Vector8) (ec : Half) (ext : Bool) : Half :=
  if v == 14#8 || v == 8#8 || v == 21#8 then ec else (ec &&& 0xFFFE#16) ||| (BitVec.ofBool ext).setWidth 16

/-- `Rollback(v)` on the context (R268). -/
def rollbackCtx (v : Vector8) (e : ExcState) (c : Context) : Context :=
  { c with
    rip := e.prevRip
    rsp := if e.specRsp then e.prevRsp else c.rsp
    ssp := if e.specRsp then e.prevSsp else c.ssp
    rflags := if v == 1#8 then c.rflags else flagsWithRF c.rflags }

/-- `Rollback(v)` (R268). -/
def rollback (v : Vector8) (s : State) : State :=
  (s.setCtx (rollbackCtx v s.exc s.ctx)).setExc { s.exc with specRsp := false }

/-- `if eclass = FAULT: Rollback(v)` (R262). -/
def rollbackIfFault (k : FaultKind) (v : Vector8) : M Unit :=
  if k == .fault then modify (rollback v) else pure ()

/-- `TripleFault()` (R274). -/
def tripleFault {α : Type} : M α := do
  let s ← get
  if s.cfg.tripleFaultAction == .reset then
    modify resetState
    emit (.reset .tripleFault)
    finish .reset
  else
    modifySched fun d => { d with activity := .shutdown }
    modifyCtx fun c => { c with rflags := flagsWithoutIF c.rflags }
    modifyExc excIdle
    modify fun s => s.setAborted true
    emit .shutdown
    finish .shutdown

/-- `if last_exception_type = DOUBLE_FAULT: TripleFault()` (R262). -/
def tripleIfDouble : M Unit := do
  let s ← get
  if s.exc.lastType == .doubleFault then tripleFault else pure ()

/-- `CommitDebug()` on the debug registers (R270). -/
def commitDebug (trap : BitVec 16) (r : ControlRegs) : ControlRegs :=
  { r with
    dr6 := (r.dr6 &&& 0xFFFF6FF0#64) ||| (trap &&& 0xE00F#16).setWidth 64
    dr7 := clearBits r.dr7 0x2000#64 }

/-- `if v = 1: CommitDebug()` (R262). -/
def commitIfDb (v : Vector8) : M Unit :=
  if v == 1#8 then modify fun s => s.setRegs (commitDebug s.sched.debugTrap s.regs) else pure ()

/-- What the stages before the delivery decide: deliver, or escalate to #DF (R271). -/
inductive ExcStage where
  | deliver (push : Bool) (ec : Half)
  | escalate
  deriving DecidableEq, Repr

/-- The class the exception leaves in `last_exception_type`, `none` when the pair is incompatible (R262, R271). -/
def nextClass (last etype : ExcClass) : Option ExcClass :=
  if etype == .doubleFault then some .doubleFault else if compatOk last etype then some etype else none

/-- The escalation test (R271) and the removal of the error code in real mode (R275). -/
def classify (etype : ExcClass) (push : Bool) (ec : Half) : M ExcStage := do
  let s ← get
  match nextClass s.exc.lastType etype with
  | none => pure .escalate
  | some c =>
    modifyExc fun e => { e with lastType := c }
    pure (if s.mode == .real then .deliver false 0#16 else .deliver push ec)

/-- The stages of `Exception(v, ec)` before the delivery, in the order of R262. -/
def exceptionStage (v : Vector8) (ec : Half) : M ExcStage := do
  abortIf (decide (32#8 ≤ v)) .badVector
  let s ← get
  let ec' := fixErrorCode v ec s.exc.extBit
  askExc v ec' (excInfo v).push 3#3
  rollbackIfFault (excInfo v).kind v
  tripleIfDouble
  commitIfDb v
  modifyExc fun e => { e with extBit := true }
  classify (excInfo v).etype (excInfo v).push ec'

/-- The end of a delivered exception (R262, R273). -/
def resolved (v : Vector8) : M Answer := do
  modifyExc fun e => { e with lastType := .benign }
  pure (.delivered v)

/-- `Exception(v, ec)` (R262). A fault of the delivery, and an escalation, enter it again; the first argument bounds how
often (log entry 20). -/
def exception : Nat → Vector8 → Half → M Answer
  | 0, _, _ => throw .depth
  | k + 1, v, ec => do
    match ← exceptionStage v ec with
    | .escalate => exception k 8#8 0#16
    | .deliver push ec' => onRaise (deliver v 3#3 push ec') (fun _ => resolved v) (exception k)

/-- Longest chain of entries into `exception`: a benign exception, a contributory one, a page fault, the pair that
escalates, the double fault, and the one that ends in a triple fault (log entry 20). -/
def maxExceptions : Nat := 6

/-- Run a command to its response (R8, R61, R110): while `aborted` it answers `ABORT` and changes nothing; what it raises
goes through `exception`. -/
def runCommand (m : M Answer) (s : State) : Host.Outcome State Fault Refusal :=
  if s.aborted then .next (s.respond .abort)
  else
    match onRaise m pure (exception maxExceptions) s with
    | .ok a s' => .next (s'.respond a)
    | .error (.done a) s' => .next (s'.respond a)
    | .error (.refuse r) _ => .refused r
    | .error (.raise _ _) _ => .fault .deliveryDepth
    | .error .depth _ => .fault .deliveryDepth

end Sys2Proof.Machine
end

