-- ==== Sys2Proof/Machine/CrWrite.lean ====
section
/-! DEFINITION. The CR0, CR2, CR3, CR4 and CR8 validators (spec/40_validators_cr.md R130 to R150) and the
control-register numbers without a register (spec/30_encoding.md R104). -/

namespace Sys2Proof.Machine

/-! ### Shared by the validators -/

/-- `CheckPDPTR(c)` from entry `i` on (R142): the entries read so far when all pass, `none` at the first bad one. -/
def readPdptes (base : Word) : Nat → Nat → M (Option (List Word))
  | 0, _ => pure (some [])
  | left + 1, i => do
    let e ← physRead (base + BitVec.ofNat 64 (8 * i))
    let s ← get
    if pdpteBad s.cfg e then pure none
    else do
      let rest ← readPdptes base left (i + 1)
      pure (rest.map (e :: ·))

/-- Hand the four entries to the paging service, or reject with #GP(0) (R142). -/
def loadPdptes (es : Option (List Word)) : M Unit :=
  match es with
  | some [e0, e1, e2, e3] => emit (.pdptrLoad e0 e1 e2 e3)
  | _ => raise 13#8 0#16

/-- The base of the four PDPTEs (R142). -/
def pdptBase (c : Word) : Word := c &&& 0xFFFFFFE0#64

/-- `if not CheckPDPTR(c): raise #GP(0)` (R131, R140, R145, R142). -/
def requirePdptes (c : Word) : M Unit := do
  let es ← readPdptes (pdptBase c) 4 0
  loadPdptes es

/-- `if <condition>: if not CheckPDPTR(c): raise #GP(0)`. -/
def pdptesIf (b : Bool) (c : Word) : M Unit := if b then requirePdptes c else pure ()

/-- `if <condition>: emit E`. -/
def emitIf (b : Bool) (e : Event) : M Unit := if b then emit e else pure ()

/-! ### CR0 -/

/-- `LongEntry()` (R134). -/
def longEntry : M Unit := do
  let s ← get
  if s.regs.lme then do
    raiseIf (!s.regs.pae) 13#8 0#16
    raiseIf s.ctx.cs.cache.l 13#8 0#16
    raiseIf (decide (s.ctx.tr.cache.type ≤ 3#4)) 13#8 0#16
    modifyRegs fun r => { r with efer := r.efer ||| eferLma }
  else pure ()

/-- `LongExit()` (R135). -/
def longExit : M Unit := do
  let s ← get
  raiseIf (s.mode == .long64) 13#8 0#16
  if s.regs.lma then do
    raiseIf s.regs.pcide 13#8 0#16
    modifyRegs fun r => { r with efer := clearBits r.efer eferLma }
  else pure ()

/-- The CR0.PG transitions (R131). -/
def pgTransition (pgOld pgNew : Bool) : M Unit :=
  if !pgOld && pgNew then longEntry else if pgOld && !pgNew then longExit else pure ()

/-- The PDPTE test of a CR0 write (R136), after the transition updated EFER.LMA. -/
def cr0Pdptes (pgNew : Bool) : M Unit := do
  let s ← get
  pdptesIf (pgNew && s.regs.pae && !s.longMode) s.regs.cr3

/-- `Commit0(old, new)` (R138). -/
def commit0 (old new : Word) : M Unit := do
  emitIf ((old ^^^ new) &&& 0x80010001#64 != 0#64) (.tlbFlush .all)
  emitMode

/-- `WRCR0` (R131). -/
def wrcr0 (v : Word) : M Answer := do
  requireCpl0
  let s ← get
  let old := s.regs.cr0
  let new := norm0 s.cfg.cpuLevel v
  obeyWrite (icptCr s .cr0 .write old new)
  raiseIf (!legalCr0 s v) 13#8 0#16
  pgTransition s.regs.pg (v.getLsbD 31)
  cr0Pdptes (v.getLsbD 31)
  modifyRegs fun r => { r with cr0 := new }
  commit0 old new
  pure (.ok 0#64)

/-! ### CR2 -/

/-- `WRCR2` (R139). -/
def wrcr2 (v : Word) : M Answer := do
  requireCpl0
  let s ← get
  obeyWrite (icptCr s .cr2 .write s.regs.cr2 v)
  modifyRegs fun r => { r with cr2 := v }
  pure (.ok 0#64)

/-! ### CR3 -/

/-- The PCID no-flush hint of a written value (R140). -/
def noFlushHint (pcide : Bool) (v : Word) : Bool := pcide && v.getLsbD 63

/-- The value with the hint stripped, when PCIDs are enabled (R140). -/
def cr3Value (pcide : Bool) (v : Word) : Word := if pcide then clearBits v 0x8000000000000000#64 else v

/-- `LegalCR3(v)` (R141): #GP(0) in long mode, a bad command outside it. -/
def requireLegalCr3 (v : Word) : M Unit := do
  let s ← get
  if s.longMode then raiseIf (v &&& abovePhys s.cfg != 0#64) 13#8 0#16
  else abortIf (v.extractLsb' 32 32 != 0#32) .badCommand

/-- `FlushForCR3()` (R143). -/
def flushForCr3 (noflush : Bool) : M Unit := do
  let s ← get
  emitIf (!noflush) (.tlbFlush (if s.regs.pge then .nonglobal else .all))

/-- `WRCR3` (R140). -/
def wrcr3 (v : Word) : M Answer := do
  requireCpl0
  let s ← get
  obeyWrite (icptCr s .cr3 .write s.regs.cr3 v)
  let v' := cr3Value s.regs.pcide v
  requireLegalCr3 v'
  pdptesIf (s.regs.pg && s.regs.pae && !s.longMode) v'
  modifyRegs fun r => { r with cr3 := v' }
  flushForCr3 (noFlushHint s.regs.pcide v)
  pure (.ok 0#64)

/-! ### CR4 -/

/-- Whether one of PGE, PAE, PSE, PCIDE, SMEP changes (R145, R149). -/
def cr4FlushChange (old v : Word) : Bool := (old ^^^ v) &&& 0x1200B0#64 != 0#64

/-- `WRCR4` (R145). -/
def wrcr4 (v : Word) : M Answer := do
  requireCpl0
  let s ← get
  let old := s.regs.cr4
  obeyWrite (icptCr s .cr4 .write old v)
  raiseIf (!legalCr4 s v) 13#8 0#16
  pdptesIf (cr4FlushChange old v && s.regs.pg && v.getLsbD 5 && !s.longMode) s.regs.cr3
  modifyRegs fun r => { r with cr4 := v }
  emitIf (cr4FlushChange old v) (.tlbFlush .all)
  emitMode
  pure (.ok 0#64)

/-! ### CR8 -/

/-- Whether CR8 stands for the virtual TPR (R150, R153). -/
def State.usesVTpr (s : State) : Bool := s.inp.inSvmGuest && s.inp.svmVIntrMasking

/-- `zext_64(TPR[7:4])` (R25). -/
def tprToCr8 (t : BitVec 8) : Word := (t.extractLsb' 4 4).setWidth 64

/-- The layer that handled a CR8 write may also set `pending_event[VMX_VTPR]` (R150, log entry 24), which is never set when
`NESTED ≠ Vmx` (R232). -/
def setVmxVTpr (set : Bool) (s : State) : State :=
  if set && s.cfg.nested == .vmx then s.setSched { s.sched with pending := s.sched.pending ||| 0x1000#16 } else s

/-- Stage 3 of `WRCR8` (R130, R150). -/
def obeyCr8Write (a : RegAnswer) : M Unit :=
  match a with
  | .pass => pure ()
  | .exit i => vmExit i
  | .handled _ set => do
    modify (setVmxVTpr set)
    finish (.ok 0#64)

/-- Write the task priority: TPR or, under SVM virtual-interrupt masking, the virtual TPR (R150). -/
def setTaskPriority (t : BitVec 8) : M Unit := do
  let s ← get
  if s.usesVTpr then do
    modify fun s => s.setVTpr t
    emit (.setVTpr t)
  else do
    modify fun s => s.setTpr t
    emit (.setTpr t)

/-- `WRCR8` (R150). -/
def wrcr8 (v : Word) : M Answer := do
  let s ← get
  raiseIf (!s.cfg.has .x86_64) 6#8 0#16
  requireCpl0
  obeyCr8Write (icptCr s .cr8 .write (tprToCr8 s.tpr) v)
  raiseIf (v.extractLsb' 4 60 != 0#60) 13#8 0#16
  setTaskPriority (v.extractLsb' 0 4 ++ 0#4)
  pure (.ok 0#64)

/-! ### Numbers that select nothing (R104) -/

/-- A register number with no register: `raise #UD(0)` before any other check (R104, R105). -/
def undefinedRegister : M Answer := raise 6#8 0#16

/-! ### The meanings -/

/-- `WRCR0` (R131). -/
def execWrcr0 (v : Word) (s : State) : Host.Outcome State Fault Refusal := runCommand (wrcr0 v) s
/-- `WRCR2` (R139). -/
def execWrcr2 (v : Word) (s : State) : Host.Outcome State Fault Refusal := runCommand (wrcr2 v) s
/-- `WRCR3` (R140). -/
def execWrcr3 (v : Word) (s : State) : Host.Outcome State Fault Refusal := runCommand (wrcr3 v) s
/-- `WRCR4` (R145). -/
def execWrcr4 (v : Word) (s : State) : Host.Outcome State Fault Refusal := runCommand (wrcr4 v) s
/-- `WRCR8` (R150). -/
def execWrcr8 (v : Word) (s : State) : Host.Outcome State Fault Refusal := runCommand (wrcr8 v) s
/-- `WRCR1_UD` (R104). -/
def execWrcr1Ud (s : State) : Host.Outcome State Fault Refusal := runCommand undefinedRegister s
/-- `WRCR5_UD` (R104). -/
def execWrcr5Ud (s : State) : Host.Outcome State Fault Refusal := runCommand undefinedRegister s
/-- `WRCR6_7_UD` (R104). -/
def execWrcr6_7Ud (_a : BitVec 1) (s : State) : Host.Outcome State Fault Refusal := runCommand undefinedRegister s
/-- `WRCR9_UD` (R104). -/
def execWrcr9Ud (s : State) : Host.Outcome State Fault Refusal := runCommand undefinedRegister s
/-- `WRCR10_11_UD` (R104). -/
def execWrcr10_11Ud (_a : BitVec 1) (s : State) : Host.Outcome State Fault Refusal := runCommand undefinedRegister s
/-- `WRCR12_15_UD` (R104). -/
def execWrcr12_15Ud (_a : BitVec 2) (s : State) : Host.Outcome State Fault Refusal := runCommand undefinedRegister s

end Sys2Proof.Machine
end

