-- ==== Sys2Proof/Machine/CrRead.lean ====
section
/-! DEFINITION. Reading the control registers (spec/40_validators_cr.md R153, spec/30_encoding.md R104). -/

namespace Sys2Proof.Machine

/-- The value a read of control register `n` finds: CR8 is the upper half of TPR or of the virtual TPR (R153). -/
def crValue (n : CrNum) (s : State) : Word :=
  match n with
  | .cr0 => s.regs.cr0
  | .cr2 => s.regs.cr2
  | .cr3 => s.regs.cr3
  | .cr4 => s.regs.cr4
  | .cr8 => tprToCr8 (if s.usesVTpr then s.vtpr else s.tpr)

/-- The privilege check, the intercept query and the value of a read (R153). -/
def rdcr (n : CrNum) : M Answer := do
  requireCpl0
  let s ← get
  obeyRead (icptCr s n .read (crValue n s) 0#64) (crValue n s)

/-- `RDCR8` first needs the feature (R104, R153). -/
def rdcr8 : M Answer := do
  let s ← get
  raiseIf (!s.cfg.has .x86_64) 6#8 0#16
  rdcr .cr8

/-- `RDCR0` (R153). -/
def execRdcr0 (s : State) : Host.Outcome State Fault Refusal := runCommand (rdcr .cr0) s
/-- `RDCR2` (R153). -/
def execRdcr2 (s : State) : Host.Outcome State Fault Refusal := runCommand (rdcr .cr2) s
/-- `RDCR3` (R153). -/
def execRdcr3 (s : State) : Host.Outcome State Fault Refusal := runCommand (rdcr .cr3) s
/-- `RDCR4` (R153). -/
def execRdcr4 (s : State) : Host.Outcome State Fault Refusal := runCommand (rdcr .cr4) s
/-- `RDCR8` (R153). -/
def execRdcr8 (s : State) : Host.Outcome State Fault Refusal := runCommand rdcr8 s
/-- `RDCR1_UD` (R104). -/
def execRdcr1Ud (s : State) : Host.Outcome State Fault Refusal := runCommand undefinedRegister s
/-- `RDCR5_UD` (R104). -/
def execRdcr5Ud (s : State) : Host.Outcome State Fault Refusal := runCommand undefinedRegister s
/-- `RDCR6_7_UD` (R104). -/
def execRdcr6_7Ud (_a : BitVec 1) (s : State) : Host.Outcome State Fault Refusal := runCommand undefinedRegister s
/-- `RDCR9_UD` (R104). -/
def execRdcr9Ud (s : State) : Host.Outcome State Fault Refusal := runCommand undefinedRegister s
/-- `RDCR10_11_UD` (R104). -/
def execRdcr10_11Ud (_a : BitVec 1) (s : State) : Host.Outcome State Fault Refusal := runCommand undefinedRegister s
/-- `RDCR12_15_UD` (R104). -/
def execRdcr12_15Ud (_a : BitVec 2) (s : State) : Host.Outcome State Fault Refusal := runCommand undefinedRegister s

end Sys2Proof.Machine
end

