-- ==== Sys2Proof/Machine/DebugRegs.lean ====
section
/-! DEFINITION. The debug registers (spec/41_validators_msr_dr.md R173 to R179). -/

namespace Sys2Proof.Machine

/-- General detect (R179): with DR7.GD set, BD joins `debug_trap` and #DB is raised. -/
def generalDetect : M Unit := do
  let s ← get
  if s.regs.gd then do
    modifySched fun d => { d with debugTrap := d.debugTrap ||| 0x2000#16 }
    raise 1#8 0#16
  else pure ()

/-- DR4 and DR5 with CR4.DE set are invalid indices (R173, R175). -/
def requireAlias : M Unit := do
  let s ← get
  raiseIf s.regs.de 6#8 0#16

/-- The stages between index resolution and the value tests, shared by reads and writes (R174, R178). -/
def drAccess (n : DrNum) (dir : Dir) : M Unit := do
  generalDetect
  requireCpl0
  askPlain (.dr n dir)

/-- The registers with breakpoint address `n` replaced (R174). -/
def putDr (n : DrNum) (v : Word) (r : ControlRegs) : ControlRegs :=
  match n with
  | .dr0 => { r with dr0 := v }
  | .dr1 => { r with dr1 := v }
  | .dr2 => { r with dr2 := v }
  | .dr3 => { r with dr3 := v }
  | .dr6 => { r with dr6 := v }
  | .dr7 => { r with dr7 := v }

/-- The value of debug register `n` (R178). -/
def drValue (n : DrNum) (r : ControlRegs) : Word :=
  match n with
  | .dr0 => r.dr0
  | .dr1 => r.dr1
  | .dr2 => r.dr2
  | .dr3 => r.dr3
  | .dr6 => r.dr6
  | .dr7 => r.dr7

/-- A write of a breakpoint address: canonical in 64-bit mode (R174). -/
def wrdrAddr (n : DrNum) (v : Word) : M Answer := do
  drAccess n .write
  let s ← get
  raiseIf (s.mode == .long64 && !canonical v) 13#8 0#16
  modifyRegs (putDr n v)
  pure (.ok 0#64)

/-- A write of DR6 (R174, R176). -/
def wrdrStatus (v : Word) : M Answer := do
  drAccess .dr6 .write
  raiseIf (v.extractLsb' 32 32 != 0#32) 13#8 0#16
  modify fun s => s.setRegs (putDr .dr6 (dr6Write s.cfg.cpuLevel s.regs.dr6 v) s.regs)
  pure (.ok 0#64)

/-- A write of DR7 (R174, R177). -/
def wrdrControl (v : Word) : M Answer := do
  drAccess .dr7 .write
  raiseIf (v.extractLsb' 32 32 != 0#32) 13#8 0#16
  modify fun s => s.setRegs (putDr .dr7 (dr7Write s.cfg.cpuLevel v) s.regs)
  pure (.ok 0#64)

/-- A read of the resolved register `n` (R178). -/
def rddr (n : DrNum) : M Answer := do
  drAccess n .read
  let s ← get
  pure (.ok (drValue n s.regs))

/-- `WRDR4`: DR6 under another number (R175). -/
def wrdr4 (v : Word) : M Answer := do
  requireAlias
  wrdrStatus v

/-- `WRDR5`: DR7 under another number (R175). -/
def wrdr5 (v : Word) : M Answer := do
  requireAlias
  wrdrControl v

/-- `RDDR4` and `RDDR5`: DR6 and DR7 under another number (R175). -/
def rddrAlias (n : DrNum) : M Answer := do
  requireAlias
  rddr n

/-- `WRDR0` (R174). -/
def execWrdr0 (v : Word) (s : State) : Host.Outcome State Fault Refusal := runCommand (wrdrAddr .dr0 v) s
/-- `WRDR1` (R174). -/
def execWrdr1 (v : Word) (s : State) : Host.Outcome State Fault Refusal := runCommand (wrdrAddr .dr1 v) s
/-- `WRDR2` (R174). -/
def execWrdr2 (v : Word) (s : State) : Host.Outcome State Fault Refusal := runCommand (wrdrAddr .dr2 v) s
/-- `WRDR3` (R174). -/
def execWrdr3 (v : Word) (s : State) : Host.Outcome State Fault Refusal := runCommand (wrdrAddr .dr3 v) s
/-- `WRDR4` (R174, R175). -/
def execWrdr4 (v : Word) (s : State) : Host.Outcome State Fault Refusal := runCommand (wrdr4 v) s
/-- `WRDR5` (R174, R175). -/
def execWrdr5 (v : Word) (s : State) : Host.Outcome State Fault Refusal := runCommand (wrdr5 v) s
/-- `WRDR6` (R174, R176). -/
def execWrdr6 (v : Word) (s : State) : Host.Outcome State Fault Refusal := runCommand (wrdrStatus v) s
/-- `WRDR7` (R174, R177). -/
def execWrdr7 (v : Word) (s : State) : Host.Outcome State Fault Refusal := runCommand (wrdrControl v) s
/-- `WRDR8_15_UD` (R173). -/
def execWrdr8_15Ud (_a : BitVec 3) (s : State) : Host.Outcome State Fault Refusal := runCommand undefinedRegister s
/-- `RDDR0` (R178). -/
def execRddr0 (s : State) : Host.Outcome State Fault Refusal := runCommand (rddr .dr0) s
/-- `RDDR1` (R178). -/
def execRddr1 (s : State) : Host.Outcome State Fault Refusal := runCommand (rddr .dr1) s
/-- `RDDR2` (R178). -/
def execRddr2 (s : State) : Host.Outcome State Fault Refusal := runCommand (rddr .dr2) s
/-- `RDDR3` (R178). -/
def execRddr3 (s : State) : Host.Outcome State Fault Refusal := runCommand (rddr .dr3) s
/-- `RDDR4` (R178, R175). -/
def execRddr4 (s : State) : Host.Outcome State Fault Refusal := runCommand (rddrAlias .dr6) s
/-- `RDDR5` (R178, R175). -/
def execRddr5 (s : State) : Host.Outcome State Fault Refusal := runCommand (rddrAlias .dr7) s
/-- `RDDR6` (R178). -/
def execRddr6 (s : State) : Host.Outcome State Fault Refusal := runCommand (rddr .dr6) s
/-- `RDDR7` (R178). -/
def execRddr7 (s : State) : Host.Outcome State Fault Refusal := runCommand (rddr .dr7) s
/-- `RDDR8_15_UD` (R173). -/
def execRddr8_15Ud (_a : BitVec 3) (s : State) : Host.Outcome State Fault Refusal := runCommand undefinedRegister s

end Sys2Proof.Machine
end

