-- ==== Sys2Proof/Machine/Events.lean ====
section
/-! DEFINITION. `RAISE` and the snapshot commands (spec/45_exception_preprocessing.md R260, R276 to R278), and `INT`
(spec/46_delivery_common_real.md R290). -/

namespace Sys2Proof.Machine

/-- `if v = 14: CR2 <- OPB` (R260). -/
def recordFaultAddr (v : Vector8) (addr : Word) : M Unit :=
  if v == 14#8 then modifyRegs fun r => { r with cr2 := addr } else pure ()

/-- `RAISE` (R260). It never ends normally: what it raises goes through `exception`. -/
def raiseCommand (v : Vector8) (ec : Half) (addr : Word) : M Answer := do
  recordFaultAddr v addr
  raise v ec

/-- The software exceptions, types 5 and 6, ask the intercept layer (R290). -/
def askIfException (v : Vector8) (ec : Half) (push : Bool) (type : BitVec 3) : M Unit :=
  if type == 5#3 || type == 6#3 then askExc v ec push type else pure ()

/-- `INT` (R290). -/
def intCommand (v : Vector8) (type : BitVec 3) (pushError : Bool) (ec : Half) : M Answer := do
  abortIf (type == 1#3 || type == 7#3) .badCommand
  askIfException v ec pushError type
  let s ← get
  deliver v type (pushError && s.mode != .real) (if s.mode == .real then 0#16 else ec)
  pure (.delivered v)

/-- `INSTR_START` (R276). -/
def instrStart : M Answer := do
  modify fun s => s.setExc { s.exc with prevRip := s.ctx.rip, specRsp := false }
  pure (.ok 0#64)

/-- `SPEC_RSP` (R277). -/
def specRsp : M Answer := do
  modify fun s => s.setExc { s.exc with prevRsp := s.ctx.rsp, prevSsp := s.ctx.ssp, specRsp := true }
  pure (.ok 0#64)

/-- `COMMIT_RSP` (R278). -/
def commitRsp : M Answer := do
  modifyExc fun e => { e with specRsp := false }
  pure (.ok 0#64)

/-- `RAISE` (R260). -/
def execRaise (v : Vector8) (ec : Half) (addr : Word) (s : State) : Host.Outcome State Fault Refusal :=
  runCommand (raiseCommand v ec addr) s
/-- `INT` (R290). -/
def execInt (v : Vector8) (type : BitVec 3) (pushError : Bool) (ec : Half) (s : State) :
    Host.Outcome State Fault Refusal :=
  runCommand (intCommand v type pushError ec) s
/-- `INSTR_START` (R276). -/
def execInstrStart (s : State) : Host.Outcome State Fault Refusal := runCommand instrStart s
/-- `SPEC_RSP` (R277). -/
def execSpecRsp (s : State) : Host.Outcome State Fault Refusal := runCommand specRsp s
/-- `COMMIT_RSP` (R278). -/
def execCommitRsp (s : State) : Host.Outcome State Fault Refusal := runCommand commitRsp s

end Sys2Proof.Machine
end

