-- ==== Sys2Proof/Machine/Feeders.lean ====
section
/-! DEFINITION. The feeder commands of the scheduler (spec/44_event_scheduler.md R245 to R249). -/

namespace Sys2Proof.Machine

/-- The mask word `w` with bit `e` put to `b` (R245, R246). -/
def putBit (w : BitVec 16) (e : BitVec 4) (b : Bool) : BitVec 16 :=
  if b then w ||| (1#16 <<< e.toNat) else w &&& ~~~(1#16 <<< e.toNat)

/-- `SIGNAL` (R245). -/
def signal (e : BitVec 4) (level : Bool) : M Answer := do
  abortIf (e == 3#4) .badCommand
  modifySched fun d => { d with pending := putBit d.pending e level }
  pure (.ok 0#64)

/-- `EVMASK` (R246). -/
def evmask (e : BitVec 4) (mask : Bool) : M Answer := do
  modifySched fun d => { d with mask := putBit d.mask e mask }
  pure (.ok 0#64)

/-- `INHIBIT` (R247). -/
def inhibit (m : BitVec 2) : M Answer := do
  modifySched fun d => { d with inhibit := d.inhibit ||| m }
  pure (.ok 0#64)

/-- `DBGTRAP` (R248). -/
def dbgtrap (b : Half) : M Answer := do
  abortIf (b &&& 0x1FF0#16 != 0#16) .badCommand
  modifySched fun d => { d with debugTrap := d.debugTrap ||| b }
  pure (.ok 0#64)

/-- The context after `ACTIVITY` entered state `a`: shutdown clears IF (R249). -/
def activityCtx (a : Activity) (c : Context) : Context :=
  if a == .shutdown then { c with rflags := flagsWithoutIF c.rflags } else c

/-- `ACTIVITY` (R249). -/
def activity (code : BitVec 3) : M Answer :=
  match activityOf code with
  | none => abort .badCommand
  | some a => do
    modifySched fun d => { d with activity := a }
    modifyCtx (activityCtx a)
    pure (.ok 0#64)

/-- `SIGNAL` (R245). -/
def execSignal (e : BitVec 4) (level : Bool) (s : State) : Host.Outcome State Fault Refusal := runCommand (signal e level) s
/-- `EVMASK` (R246). -/
def execEvmask (e : BitVec 4) (mask : Bool) (s : State) : Host.Outcome State Fault Refusal := runCommand (evmask e mask) s
/-- `INHIBIT` (R247). -/
def execInhibit (m : BitVec 2) (s : State) : Host.Outcome State Fault Refusal := runCommand (inhibit m) s
/-- `DBGTRAP` (R248). -/
def execDbgtrap (b : Half) (s : State) : Host.Outcome State Fault Refusal := runCommand (dbgtrap b) s
/-- `ACTIVITY` (R249). -/
def execActivity (a : BitVec 3) (s : State) : Host.Outcome State Fault Refusal := runCommand (activity a) s

end Sys2Proof.Machine
end

