-- ==== Sys2Proof/Machine/IoPerm.lean ====
section
/-! DEFINITION. The I/O permission check (spec/42_io_permission.md R190 to R200). -/

namespace Sys2Proof.Machine

/-- The widths of R190. -/
def ioWidthOk (width : BitVec 8) : Bool := width == 1#8 || width == 2#8 || width == 4#8

/-- The grant without a bitmap (R192). -/
def ioUnconditional (s : State) : Bool := !s.regs.pe || decide (s.ctx.cpl ≤ s.ctx.iopl)

/-- "a valid, present 32-bit TSS with limit ≥103" (R191, R193). -/
def ioTssOk (tr : SegReg) : Bool :=
  tr.valid && tr.cache.p && isTss32 tr.cache.type && decide (103 ≤ tr.cache.limit.toNat)

/-- Whether the `width` bits from `port & 7` on of the permission word are clear (R191, R196). -/
def ioBitsClear (w : Word) (port : Half) (width : BitVec 8) : Bool :=
  (w >>> (port.toNat % 8)) &&& ((1#64 <<< width.toNat) - 1#64) == 0#64

/-- The bound of the bitmap and the test of the permission word (R191, R194, R195). -/
def bitmapWord (port : Half) (width : BitVec 8) : M Bool := do
  let s ← get
  let ioMapBase ← memRead (s.ctx.tr.cache.base + 102#64) 2 .sys
  let off := ioMapBase.toNat + port.toNat / 8
  if s.ctx.tr.cache.limit.toNat ≤ off then pure false
  else do
    let w ← memRead (s.ctx.tr.cache.base + BitVec.ofNat 64 off) 2 .sys
    pure (ioBitsClear w port width)

/-- `BitmapGrants(port, width)` (R191). -/
def bitmapGrants (port : Half) (width : BitVec 8) : M Bool := do
  let s ← get
  if ioUnconditional s then pure true
  else if ioTssOk s.ctx.tr then bitmapWord port width
  else pure false

/-- The length code of a breakpoint as length minus one (R200). -/
def bpLenMask (len : BitVec 2) : Word :=
  match len with
  | 0#2 => 0#64
  | 1#2 => 1#64
  | 2#2 => 7#64
  | _ => 3#64

/-- Whether I/O breakpoint `i`, at address `dr`, is enabled and overlaps the access (R200). -/
def ioBpHit (dr7 dr : Word) (i : Nat) (port : Half) (width : BitVec 8) : Bool :=
  let lm := bpLenMask (dr7.extractLsb' (18 + 4 * i) 2)
  let start := clearBits dr lm
  let stop := start + lm
  let first : Word := port.setWidth 64
  let last := first + width.setWidth 64 - 1#64
  (dr7.getLsbD (2 * i) || dr7.getLsbD (2 * i + 1)) && dr7.extractLsb' (16 + 4 * i) 2 == 2#2
    && decide (start ≤ last) && decide (first ≤ stop)

/-- `IoBpMatch(port, width)` (R200). -/
def ioBpMatch (r : ControlRegs) (port : Half) (width : BitVec 8) : BitVec 16 :=
  if r.de then
    0#12 ++ BitVec.ofBool (ioBpHit r.dr7 r.dr3 3 port width) ++ BitVec.ofBool (ioBpHit r.dr7 r.dr2 2 port width)
      ++ BitVec.ofBool (ioBpHit r.dr7 r.dr1 1 port width) ++ BitVec.ofBool (ioBpHit r.dr7 r.dr0 0 port width)
  else 0#16

/-- `if not BitmapGrants: outcome DENY` (R190). -/
def denyUnless (granted : Bool) : M Unit := if granted then pure () else finish .deny

/-- `CHKIO` (R190). -/
def chkio (width : BitVec 8) (out rep : Bool) (port : Half) : M Answer := do
  abortIf (!ioWidthOk width) .badCommand
  let granted ← bitmapGrants port width
  denyUnless granted
  askPlain (.io port width out rep)
  modify fun s => s.setSched { s.sched with debugTrap := s.sched.debugTrap ||| ioBpMatch s.regs port width }
  pure (.ok 0#64)

/-- `CHKIO` (R190). -/
def execChkio (width : BitVec 8) (out rep : Bool) (port : Half) (s : State) : Host.Outcome State Fault Refusal :=
  runCommand (chkio width out rep port) s

end Sys2Proof.Machine
end

