-- ==== Sys2Proof/Machine/Msr.lean ====
section
/-! DEFINITION. EFER, XCR0 and IA32_XSS (spec/41_validators_msr_dr.md R160 to R171). -/

namespace Sys2Proof.Machine

/-- The value EFER takes: LMA comes from the old value (R160, R163). -/
def eferWrite (c : Config) (old v : Word) : Word :=
  clearBits (v &&& eferAllow c) eferLma ||| (old &&& eferLma)

/-- `WREFER` (R160, R162). -/
def wrefer (v : Word) : M Answer := do
  requireCpl0
  let s ← get
  obeyWrite (icptReg s .efer .write s.regs.efer v)
  raiseIf (v &&& ~~~(eferAllow s.cfg) != 0#64) 13#8 0#16
  raiseIf (v.getLsbD 8 != s.regs.lme && s.regs.pg) 13#8 0#16
  modifyRegs fun r => { r with efer := eferWrite s.cfg r.efer v }
  pure (.ok 0#64)

/-- `RDEFER` (R164). -/
def rdefer : M Answer := do
  requireCpl0
  let s ← get
  obeyRead (icptReg s .efer .read s.regs.efer 0#64) s.regs.efer

/-- XCR access needs CR4.OSXSAVE (R165, R168). -/
def requireOsxsave : M Unit := do
  let s ← get
  raiseIf (!s.regs.osxsave) 6#8 0#16

/-- `WRXCR` (R165). -/
def wrxcr (i : BitVec 8) (v : Word) : M Answer := do
  requireOsxsave
  requireCpl0
  let s ← get
  obeyWrite (icptReg s .xcr0 .write s.regs.xcr0 v)
  raiseIf (i != 0#8) 13#8 0#16
  raiseIf (!legalXcr0 s.cfg v) 13#8 0#16
  modifyRegs fun r => { r with xcr0 := v }
  emitMode
  pure (.ok 0#64)

/-- `RDXCR` (R168). -/
def rdxcr (i : BitVec 8) : M Answer := do
  requireOsxsave
  raiseIf (i != 0#8) 13#8 0#16
  let s ← get
  pure (.ok s.regs.xcr0)

/-- `WRXSS` (R169). -/
def wrxss (v : Word) : M Answer := do
  requireCpl0
  let s ← get
  obeyWrite (icptReg s .xss .write s.regs.xss v)
  raiseIf (!s.cfg.has .xsaves) 13#8 0#16
  raiseIf (v &&& ~~~(xssAllow s.cfg) != 0#64) 13#8 0#16
  modifyRegs fun r => { r with xss := v }
  pure (.ok 0#64)

/-- `RDXSS` (R171). -/
def rdxss : M Answer := do
  requireCpl0
  let s ← get
  raiseIf (!s.cfg.has .xsaves) 13#8 0#16
  obeyRead (icptReg s .xss .read s.regs.xss 0#64) s.regs.xss

/-- `WREFER` (R160). -/
def execWrefer (v : Word) (s : State) : Host.Outcome State Fault Refusal := runCommand (wrefer v) s
/-- `RDEFER` (R164). -/
def execRdefer (s : State) : Host.Outcome State Fault Refusal := runCommand rdefer s
/-- `WRXCR` (R165). -/
def execWrxcr (i : BitVec 8) (v : Word) (s : State) : Host.Outcome State Fault Refusal := runCommand (wrxcr i v) s
/-- `RDXCR` (R168). -/
def execRdxcr (i : BitVec 8) (s : State) : Host.Outcome State Fault Refusal := runCommand (rdxcr i) s
/-- `WRXSS` (R169). -/
def execWrxss (v : Word) (s : State) : Host.Outcome State Fault Refusal := runCommand (wrxss v) s
/-- `RDXSS` (R171). -/
def execRdxss (s : State) : Host.Outcome State Fault Refusal := runCommand rdxss s

end Sys2Proof.Machine
end

