-- ==== Sys2Proof/Machine/Scheduler.lean ====
section
/-! DEFINITION. The per-boundary pass `BOUNDARY` (spec/44_event_scheduler.md R220 to R253). -/

namespace Sys2Proof.Machine

/-! ### Event bits (R50) -/

/-- NMI. -/
def evNmi : Nat := 0
/-- SMI. -/
def evSmi : Nat := 1
/-- INIT. -/
def evInit : Nat := 2
/-- VMX_MTF. -/
def evMtf : Nat := 4
/-- VMX_PREEMPT. -/
def evPreempt : Nat := 5
/-- VMX_INTWIN. -/
def evIntWin : Nat := 6
/-- VMX_VNMI. -/
def evVNmi : Nat := 7
/-- SVM_VIRQ. -/
def evSvmVirq : Nat := 8
/-- VMX_VINTR. -/
def evVIntr : Nat := 9
/-- INTR. -/
def evIntr : Nat := 10
/-- LAPIC_INTR. -/
def evLapic : Nat := 11
/-- VMX_VTPR. -/
def evVTpr : Nat := 12
/-- VMX_VEOI. -/
def evVEoi : Nat := 13
/-- VMX_VAPICWR. -/
def evVApicWr : Nat := 14
/-- DMA_HRQ. -/
def evDmaHrq : Nat := 15

/-- `pending_event[e] = 1`. -/
def State.pendingBit (s : State) (e : Nat) : Bool := s.sched.pending.getLsbD e

/-- `Unmasked(e)` (R50). -/
def State.unmasked (s : State) (e : Nat) : Bool := s.sched.pending.getLsbD e && !s.sched.mask.getLsbD e

/-- `UnmaskedIF(e)` (R238). -/
def State.unmaskedIF (s : State) (e : Nat) : Bool := s.unmasked e && s.ctx.iflag

/-- The bit of event `e`. -/
def evBit (e : Nat) : BitVec 16 := 1#16 <<< e

/-- `pending_event[e] <- 0`. -/
def clearPending (e : Nat) : M Unit := modifySched fun d => { d with pending := d.pending &&& ~~~(evBit e) }

/-- The effective GIF: constantly 1 when `NESTED ≠ Svm` (R59, R229). -/
def State.gifOn (s : State) : Bool := s.cfg.nested != .svm || s.inp.gif

/-! ### Halted handling (R223) -/

/-- `Wake()` (R223). -/
def State.wakes (s : State) : Bool :=
  s.sched.activity != .waitForSipi
    && (((s.pendingBit evIntr || s.pendingBit evLapic)
            && ((s.ctx.iflag && s.sched.activity != .shutdown) || s.sched.activity == .mwaitIf))
        || (s.ctx.iflag && (s.unmasked evVIntr || s.unmasked evSvmVirq))
        || s.unmasked evNmi || s.unmasked evSmi || s.unmasked evInit || s.unmasked evVNmi || s.unmasked evPreempt)

/-- `if kill_request = 1: outcome KILLED` (R223, R226). -/
def stepKill : M Unit := do
  let s ← get
  if s.inp.killRequest then finish .killed else pure ()

/-- `HaltedStep()` (R223). -/
def haltedStep : M Unit := do
  stepKill
  let s ← get
  if s.wakes then modifySched fun d => { d with activity := .active, inhibit := 0#2 } else finish .halted

/-- The first thing `BOUNDARY` does (R223, R224). -/
def haltedFirst : M Unit := do
  let s ← get
  if s.sched.activity != .active then haltedStep else pure ()

/-! ### Steps 2 to 5 -/

/-- Step 2: the task-switch trap (R231). -/
def stepTaskTrap : M Unit := do
  let s ← get
  raiseIf (s.sched.debugTrap.getLsbD 15) 1#8 0#16

/-- One APIC-virtualization trap (R232). -/
def apicTrap (e : Nat) : M Unit := do
  let s ← get
  if s.unmasked e then do
    clearPending e
    obeyPlain (apicTrapAnswer s e)
  else pure ()

/-- Step 3: the APIC-virtualization traps in the order of R232. -/
def stepApic : M Unit := do
  apicTrap evVTpr
  apicTrap evVEoi
  apicTrap evVApicWr

/-- Step 4a: SMI (R233). -/
def stepSmi : M Unit := do
  let s ← get
  if s.unmasked evSmi && s.gifOn then do
    clearPending evSmi
    askPlain (.event .smi)
    emit .smmEntry
    finish .smmEntry
  else pure ()

/-- Step 4b: INIT (R234). -/
def stepInit : M Unit := do
  let s ← get
  if s.unmasked evInit && s.gifOn then do
    clearPending evInit
    askPlain (.event .init)
    modify resetState
    emit (.reset .init)
    finish .reset
  else pure ()

/-- Step 4c: the monitor trap flag (R235). -/
def stepMtf : M Unit := do
  let s ← get
  if s.unmasked evMtf then do
    clearPending evMtf
    vmExit ⟨.mtf, 0#64⟩
  else pure ()

/-- Step 5: the accumulated debug trap, or its loss under `INH_DEBUG` (R236, R237). -/
def stepDebug : M Unit := do
  let s ← get
  if s.sched.inhibit.getLsbD 1 then modifySched fun d => { d with debugTrap := 0#16 }
  else raiseIf (s.sched.debugTrap != 0#16) 1#8 0#16

/-! ### Step 6 -/

/-- `EXT <- 1` (R241, R243). -/
def setExt : M Unit := modifyExc fun e => { e with extBit := true }

/-- Deliver an asynchronous vector: no error code, and `prev_rip <- RIP` after it (R241, R243, R244). -/
def deliverAsync (v : Vector8) (type : BitVec 3) : M (Option Vector8) := do
  deliver v type false 0#16
  modify fun s => s.setExc { s.exc with prevRip := s.ctx.rip }
  pure (some v)

/-- The NMI (R241). -/
def takeNmi : M (Option Vector8) := do
  modifySched fun d => { d with pending := d.pending &&& ~~~(evBit evNmi), mask := d.mask ||| evBit evNmi }
  askPlain (.event .nmi)
  setExt
  deliverAsync 2#8 2#3

/-- A physical maskable interrupt `v` after its acknowledge (R243). -/
def takeExternal (v : Vector8) : M (Option Vector8) := do
  emit (.intAck v)
  askPlain (.event (.intr v))
  setExt
  deliverAsync v 0#3

/-- The VMX virtual interrupt (R243). -/
def takeVirtual : M (Option Vector8) := do
  clearPending evVIntr
  let s ← get
  setExt
  deliverAsync s.inp.vapicVector 0#3

/-- The local APIC's interrupt (R243). -/
def takeLapic : M (Option Vector8) := do
  clearPending evLapic
  let s ← get
  takeExternal s.inp.lapicVector

/-- The PIC's interrupt (R243). -/
def takePic : M (Option Vector8) := do
  clearPending evIntr
  let s ← get
  takeExternal s.inp.picVector

/-- The maskable interrupt: virtual, then local APIC, then PIC (R243). -/
def takeMaskable : M (Option Vector8) := do
  let s ← get
  if s.unmaskedIF evVIntr then takeVirtual else if s.unmaskedIF evLapic then takeLapic else takePic

/-- The SVM virtual interrupt (R244); `EXT` is not set. The layer is asked, as R244 and R211 have it, where decision D47
speaks of physical sources only (log entry 35). -/
def takeSvmVirq : M (Option Vector8) := do
  clearPending evSvmVirq
  let s ← get
  emit (.virtIntAck s.inp.svmVector)
  askPlain (.event .vintr)
  deliverAsync s.inp.svmVector 0#3

/-- The DMA hold (R244). -/
def takeDma : M (Option Vector8) := do
  clearPending evDmaHrq
  emit .dmaHoldAck
  pure none

/-- The preemption timer (R239). -/
def takePreempt : M (Option Vector8) := do
  clearPending evPreempt
  vmExit ⟨.preemptionTimer, 0#64⟩

/-- Step 6 (R238): the vector delivered, if any. Exactly one branch runs. -/
def stepInterrupts : M (Option Vector8) := do
  let s ← get
  if s.sched.inhibit.getLsbD 0 || !s.gifOn then pure none
  else if s.unmasked evPreempt then takePreempt
  else if s.unmasked evVNmi then vmExit ⟨.nmiWindow, 0#64⟩
  else if s.unmasked evNmi then takeNmi
  else if s.unmaskedIF evIntWin then vmExit ⟨.interruptWindow, 0#64⟩
  else if s.unmaskedIF evIntr || s.unmaskedIF evLapic || s.unmaskedIF evVIntr then takeMaskable
  else if s.unmaskedIF evSvmVirq then takeSvmVirq
  else if s.unmasked evDmaHrq then takeDma
  else pure none

/-! ### Step 7 and the pass -/

/-- Step 7 (R251): arm the single step when TF is set. -/
def armSingleStep (s : State) : State :=
  if s.ctx.tf then s.setSched { s.sched with debugTrap := s.sched.debugTrap ||| 0x4000#16 } else s

/-- The end of the pass (R252). -/
def endPass (s : State) : State := s.setSched { s.sched with inhibit := 0#2 }

/-- The response of a pass that no step ended (R224). -/
def passAnswer : Option Vector8 → Answer
  | none => .ok 0#64
  | some v => .delivered v

/-- `BOUNDARY` (R224). -/
def boundary : M Answer := do
  haltedFirst
  stepKill
  stepTaskTrap
  stepApic
  stepSmi
  stepInit
  stepMtf
  stepDebug
  let d ← stepInterrupts
  modify armSingleStep
  modify endPass
  pure (passAnswer d)

/-- `BOUNDARY` (R224). -/
def execBoundary (s : State) : Host.Outcome State Fault Refusal := runCommand boundary s

end Sys2Proof.Machine
end

