-- ==== Sys2Proof/Machine/Dispatch.lean ====
section
/-! DEFINITION. One arm per constructor of `Instr`: the meaning of each command. -/

namespace Sys2Proof.Machine

def exec (i : Instr) (s : State) : Host.Outcome State Fault Refusal :=
  match i with
  | .wrcr0 v => Sys2Proof.Machine.execWrcr0 v s
  | .wrcr2 v => Sys2Proof.Machine.execWrcr2 v s
  | .wrcr3 v => Sys2Proof.Machine.execWrcr3 v s
  | .wrcr4 v => Sys2Proof.Machine.execWrcr4 v s
  | .wrcr8 v => Sys2Proof.Machine.execWrcr8 v s
  | .wrcr1Ud => Sys2Proof.Machine.execWrcr1Ud s
  | .wrcr5Ud => Sys2Proof.Machine.execWrcr5Ud s
  | .wrcr6_7Ud a => Sys2Proof.Machine.execWrcr6_7Ud a s
  | .wrcr9Ud => Sys2Proof.Machine.execWrcr9Ud s
  | .wrcr10_11Ud a => Sys2Proof.Machine.execWrcr10_11Ud a s
  | .wrcr12_15Ud a => Sys2Proof.Machine.execWrcr12_15Ud a s
  | .rdcr0 => Sys2Proof.Machine.execRdcr0 s
  | .rdcr2 => Sys2Proof.Machine.execRdcr2 s
  | .rdcr3 => Sys2Proof.Machine.execRdcr3 s
  | .rdcr4 => Sys2Proof.Machine.execRdcr4 s
  | .rdcr8 => Sys2Proof.Machine.execRdcr8 s
  | .rdcr1Ud => Sys2Proof.Machine.execRdcr1Ud s
  | .rdcr5Ud => Sys2Proof.Machine.execRdcr5Ud s
  | .rdcr6_7Ud a => Sys2Proof.Machine.execRdcr6_7Ud a s
  | .rdcr9Ud => Sys2Proof.Machine.execRdcr9Ud s
  | .rdcr10_11Ud a => Sys2Proof.Machine.execRdcr10_11Ud a s
  | .rdcr12_15Ud a => Sys2Proof.Machine.execRdcr12_15Ud a s
  | .wrdr0 v => Sys2Proof.Machine.execWrdr0 v s
  | .wrdr1 v => Sys2Proof.Machine.execWrdr1 v s
  | .wrdr2 v => Sys2Proof.Machine.execWrdr2 v s
  | .wrdr3 v => Sys2Proof.Machine.execWrdr3 v s
  | .wrdr4 v => Sys2Proof.Machine.execWrdr4 v s
  | .wrdr5 v => Sys2Proof.Machine.execWrdr5 v s
  | .wrdr6 v => Sys2Proof.Machine.execWrdr6 v s
  | .wrdr7 v => Sys2Proof.Machine.execWrdr7 v s
  | .wrdr8_15Ud a => Sys2Proof.Machine.execWrdr8_15Ud a s
  | .rddr0 => Sys2Proof.Machine.execRddr0 s
  | .rddr1 => Sys2Proof.Machine.execRddr1 s
  | .rddr2 => Sys2Proof.Machine.execRddr2 s
  | .rddr3 => Sys2Proof.Machine.execRddr3 s
  | .rddr4 => Sys2Proof.Machine.execRddr4 s
  | .rddr5 => Sys2Proof.Machine.execRddr5 s
  | .rddr6 => Sys2Proof.Machine.execRddr6 s
  | .rddr7 => Sys2Proof.Machine.execRddr7 s
  | .rddr8_15Ud a => Sys2Proof.Machine.execRddr8_15Ud a s
  | .wrefer v => Sys2Proof.Machine.execWrefer v s
  | .rdefer => Sys2Proof.Machine.execRdefer s
  | .wrxcr idx v => Sys2Proof.Machine.execWrxcr idx v s
  | .rdxcr idx => Sys2Proof.Machine.execRdxcr idx s
  | .wrxss v => Sys2Proof.Machine.execWrxss v s
  | .rdxss => Sys2Proof.Machine.execRdxss s
  | .chkio width out rep port => Sys2Proof.Machine.execChkio width out rep port s
  | .boundary => Sys2Proof.Machine.execBoundary s
  | .inhibit m => Sys2Proof.Machine.execInhibit m s
  | .signal e level => Sys2Proof.Machine.execSignal e level s
  | .evmask e mask => Sys2Proof.Machine.execEvmask e mask s
  | .dbgtrap b => Sys2Proof.Machine.execDbgtrap b s
  | .activity a => Sys2Proof.Machine.execActivity a s
  | .raise v ec addr => Sys2Proof.Machine.execRaise v ec addr s
  | .int v type pushError ec => Sys2Proof.Machine.execInt v type pushError ec s
  | .instrStart => Sys2Proof.Machine.execInstrStart s
  | .specRsp => Sys2Proof.Machine.execSpecRsp s
  | .commitRsp => Sys2Proof.Machine.execCommitRsp s

end Sys2Proof.Machine
end

