-- ==== Sys2Proof/Machine/Environment.lean ====
section
/-! DEFINITION. What other agents do to the state between two commands (log entry 16): the host's inputs (spec/10_state.md
R54, R59), the core's rewriting of the shared context (R40 to R46), other writers of memory (R84), the task-switch unit
(R330) and the platform reset (R410). -/

namespace Sys2Proof.Machine

/-- A controller's next acknowledge vector (R243, R244). -/
def putAckVector (src : AckSource) (v : Vector8) (i : Inputs) : Inputs :=
  match src with
  | .lapic => { i with lapicVector := v }
  | .pic => { i with picVector := v }
  | .vapic => { i with vapicVector := v }
  | .svm => { i with svmVector := v }

/-- The exception state after the task-switch unit finished (R330): BENIGN after every task switch (R427). -/
def taskSwitched (rip : Word) (e : ExcState) : ExcState := { excIdle e with prevRip := rip }

/-- The guest bits as the host leaves them: `in_svm_guest` is `in_guest` and `NESTED = Svm` (R59). -/
def putInGuest (c : Config) (b : Bool) (i : Inputs) : Inputs :=
  { i with inGuest := b, inSvmGuest := b && c.nested == .svm }

/-- The value of `in_guest` that goes with `in_svm_guest = b`: under `NESTED = Svm` the same; elsewhere no SVM guest can
be entered or left, and `in_guest` stays (R59, log entry 17). -/
def guestForSvm (c : Config) (b : Bool) (i : Inputs) : Bool := if c.nested == .svm then b else i.inGuest

/-- The effect of one action of another agent. The bits `in_svm_guest` and `gif` keep what R59 says of them:
`in_svm_guest` is `in_guest` and `NESTED = Svm`, and `gif` is 1 when `NESTED ≠ Svm` (log entry 17). A context that is
loaded is stored as it is: neither the fixed bits of RFLAGS (R42, log entry 28) nor the relation of CPL to CS and the mode
(R44, log entry 29) is forced, which is the model's choice. A store of another agent to memory (R84) lands between two
commands only, never between two accesses of one, which is the model's choice too (log entry 33). -/
def hostStep (a : HostAction) (s : State) : State :=
  match a with
  | .setKillRequest b => s.setInp { s.inp with killRequest := b }
  | .setInGuest b => s.setInp (putInGuest s.cfg b s.inp)
  | .setInSvmGuest b => s.setInp (putInGuest s.cfg (guestForSvm s.cfg b s.inp) s.inp)
  | .setInSmm b => s.setInp { s.inp with inSmm := b }
  | .setGif b => s.setInp { s.inp with gif := b || s.cfg.nested != .svm }
  | .setSvmVIntrMasking b => s.setInp { s.inp with svmVIntrMasking := b }
  | .setAckVector src v => s.setInp (putAckVector src v s.inp)
  | .setIntercepts c => s.setInp { s.inp with icpt := c }
  | .setApicTraps answers => s.setInp { s.inp with apicTraps := answers }
  | .loadContext c => s.setCtx c
  | .setTpr v => s.setTpr v
  | .setVTpr v => s.setVTpr v
  | .storeLinear addr b => s.setMem (s.mem.set addr.toNat b)
  | .storePhys addr b => s.setPhys (s.phys.set addr.toNat b)
  | .setPort answers => s.setPort answers
  | .taskSwitchDone v type =>
    (s.setExc (taskSwitched s.ctx.rip s.exc)).setHist (s.hist ++ [.delivered v type])
  | .platformReset => (resetState s).setHist (s.hist ++ [.reset .platform])

/-- The answer to a command word outside every row of the table: `ABORT(bad_command)` (spec/30_encoding.md R115). -/
def undecoded (s : State) : Host.Outcome State Fault Refusal := runCommand (abort .badCommand) s

/-- The state with `c` as the oldest request at the command port. -/
def placeCommand (c : Command) (s : State) : State := s.setQueue (.command c :: s.queue)

end Sys2Proof.Machine
end

