-- ==== Sys2Proof/Machine/Step.lean ====
section
/-! DEFINITION. One step of the machine: it takes the oldest request at the block and performs it (spec/00_scope.md R8,
log entry 1). -/

namespace Sys2Proof.Machine

/-- Perform a command: the instruction it decodes to, or the answer to an encoding outside every row (R115). -/
def perform (c : Command) (s : State) : Host.Outcome State Fault Refusal :=
  match decode c with
  | .ok i => exec i s
  | .error _ => undecoded s

/-- One step. With no request the block waits (log entry 1). -/
def step (s : State) : Host.Outcome State Fault Refusal :=
  match s.queue with
  | [] => .next s
  | .command c :: rest => perform c (s.setQueue rest)
  | .host a :: rest => .next (hostStep a (s.setQueue rest))

/-- The state with the command of a table word as its oldest request. -/
def State.withFetchWord (s : State) (nbits w : Nat) : State :=
  placeCommand (Command.ofTableWord nbits w) s

end Sys2Proof.Machine
end

