-- ==== Sys2Proof/Safety.lean ====
section
/-! DEFINITION. What counts as a safe run, in the terms the claims use: the invariant of the machine, the idle exception
state, and, for each of the three delivery routines, when a delivery completes and the state it then leaves, written out
from the frame tables and register rules of the spec (spec/46_delivery_common_real.md, 47, 48). -/

namespace Sys2Proof.Machine

/-! ### The invariant -/

/-- The control registers: R21, R31 (with the consequence it derives), R147 reasons 1 and 3, R161, R166, R167, R170, R28
with R176 and R177. The zero bits of DR6 and DR7 are asked from level 5 on; below it log entry 34. -/
structure RegsOk (c : Config) (r : ControlRegs) : Prop where
  cr0Upper : r.cr0.extractLsb' 32 32 = 0#32
  cr0Et : r.cr0.getLsbD 4 = true
  cr0Reserved : c.cpuLevel = .l4 ∨ c.cpuLevel = .l6 → r.cr0 &&& ~~~0xE005003F#64 = 0#64
  pgNeedsPe : c.nested ≠ .svm → r.pg = true → r.pe = true
  nwNeedsCd : r.nw = true → r.cd = true
  lmaNeeds : r.lma = true → r.pg = true ∧ r.lme = true ∧ r.pae = true
  pcideNeedsLma : r.pcide = true → r.lma = true
  cr4Allowed : r.cr4 &&& ~~~(cr4Allow c) = 0#64
  eferAllowed : r.efer &&& ~~~(eferAllow c) = 0#64
  xcr0Legal : legalXcr0 c r.xcr0 = true
  xssAllowed : r.xss &&& ~~~(xssAllow c) = 0#64
  dr6Ones : r.dr6 &&& 0xFFFF0FF0#64 = 0xFFFF0FF0#64
  dr6Upper : r.dr6.extractLsb' 32 32 = 0#32
  dr6Bit12 : 5 ≤ c.cpuLevel.toNat → r.dr6.getLsbD 12 = false
  dr7Bit10 : r.dr7.getLsbD 10 = true
  dr7Upper : r.dr7.extractLsb' 32 32 = 0#32
  dr7Zero : 5 ≤ c.cpuLevel.toNat → r.dr7 &&& 0xD000#64 = 0#64

/-- The scheduler state: bits 4 to 12 of `debug_trap` are always 0 (R51), event 3 reads 0 (R50). -/
structure SchedOk (d : Sched) : Prop where
  debugTrap : d.debugTrap &&& 0x1FF0#16 = 0#16
  event3 : d.pending.getLsbD 3 = false

/-- The inputs: `gif` is constantly 1 without SVM, and `in_svm_guest` is `in_guest` and `NESTED = Svm` (R59). -/
structure InputsOk (c : Config) (i : Inputs) : Prop where
  gif : c.nested ≠ .svm → i.gif = true
  svmGuest : i.inSvmGuest = (i.inGuest && c.nested == .svm)

/-- The invariant of the machine. -/
structure Inv (s : State) : Prop where
  regs : RegsOk s.cfg s.regs
  sched : SchedOk s.sched
  inputs : InputsOk s.cfg s.inp
  mem : s.mem.wf = true
  phys : s.phys.wf = true

/-- No delivery in progress (R56, R57, R58, R405). -/
def ExcState.Idle (e : ExcState) : Prop := e.inEvent = false ∧ e.extBit = false ∧ e.lastType = .benign

/-- The kind `K` of the last response (R102, R110). -/
def State.kind (s : State) : BitVec 4 := s.response.resp.extractLsb' 28 4

/-- The vector of the last response (R102, R110). -/
def State.respVector (s : State) : Vector8 := s.response.resp.extractLsb' 0 8

/-- Every answer of the paging service that is still listed is `ok` (R72, log entry 7). -/
def State.portOk (s : State) : Prop := ∀ a ∈ s.port, a = none

/-! ### Frames -/

/-- Memory after the entries of a frame, the first listed at `addr k`, the next at `addr (k + 1)`, each `n` bytes. -/
def frameMem (addr : Nat → Word) (n : Nat) : List Word → Nat → Memory → Memory
  | [], _, m => m
  | x :: xs, k, m => frameMem addr n xs (k + 1) (m.writeLE (addr k) n (truncBytes n x))

/-- The history entries of the same frame. -/
def frameHist (addr : Nat → Word) (n : Nat) (acc : Acc) : List Word → Nat → List Event
  | [], _ => []
  | x :: xs, k => .memW (addr k) n (truncBytes n x) acc :: frameHist addr n acc xs (k + 1)

/-- The state with more entries in the history (R60). -/
def State.logged (s : State) (es : List Event) : State := s.setHist (s.hist ++ es)

/-- The state after accesses of the memory port that were answered `ok` (R72). -/
def State.accessed (s : State) (accesses : List Event) : State :=
  (s.setHist (s.hist ++ accesses)).setPort (s.port.drop accesses.length)

/-- The state after the entries `xs` of a frame were stored, the first at `addr k`. -/
def State.framed (s : State) (addr : Nat → Word) (n : Nat) (acc : Acc) (xs : List Word) (k : Nat) : State :=
  (s.accessed (frameHist addr n acc xs k)).setMem (frameMem addr n xs k s.mem)

/-- What every delivery leaves besides the context and memory: `debug_trap`, `inhibit_mask`, `in_event` and `EXT` at 0,
`prev_rip` at the handler's address, the accesses and `Delivered(v, type)` in the history (R292, R293, R387). -/
def deliveredWith (s : State) (v : Vector8) (type : BitVec 3) (accesses : List Event) (c : Context) (m : Memory)
    (e : ExcState) : State :=
  { s with
    ctx := c
    mem := m
    hist := s.hist ++ accesses ++ [.delivered v type]
    port := s.port.drop accesses.length
    sched := { s.sched with debugTrap := 0#16, inhibit := 0#2 }
    exc := { e with inEvent := false, extBit := false, prevRip := c.rip } }

/-- The snapshot a legacy delivery takes, after its end (R292). -/
def legacySnapshot (s : State) : ExcState :=
  { s.exc with prevRsp := s.ctx.rsp, prevSsp := s.ctx.ssp, specRsp := false }

/-- The offset of the `k`-th entry of `n` bytes pushed on the current stack outside long mode (R295). -/
def slotOff (c : Context) (n k : Nat) : Word := wrapSp c.ss.cache.db (c.rsp - BitVec.ofNat 64 (n * k))

/-- Its linear address (R295). -/
def slotAddr (c : Context) (n k : Nat) : Word := legacyAddr c.ss.cache.base (slotOff c n k)

/-- The first `count` entries of `n` bytes pass the limit check of the current stack segment (R296). -/
def slotsOk (c : Context) (n count : Nat) : Prop :=
  ∀ k, 1 ≤ k → k ≤ count → stackOk c.ss.cache (slotOff c n k) n = true

/-- Of `count` entries of `n` bytes, the first `j` pass that check and the next does not (R296). -/
def FirstBadSlot (c : Context) (n count j : Nat) : Prop :=
  j < count ∧ slotsOk c n j ∧ stackOk c.ss.cache (slotOff c n (j + 1)) n = false

/-- The state after the entries `xs` of `n` bytes were pushed on the current stack (R295). -/
def State.pushedOn (s : State) (n : Nat) (xs : List Word) : State :=
  (s.framed (slotAddr s.ctx n) n (.stack s.ctx.cpl) xs 1).setCtx
    { s.ctx with
      rsp := if xs.isEmpty then s.ctx.rsp else mergeSp s.ctx.ss.cache.db s.ctx.rsp (slotOff s.ctx n xs.length) }

/-! ### Real mode (R297 to R303) -/

/-- The three words of the real-mode frame: FLAGS, CS, IP (R298). -/
def realFrame (c : Context) : List Word := [c.rflags, c.cs.sel.setWidth 64, c.rip]

/-- Memory after they were pushed (R298). -/
def realMem (s : State) : Memory := frameMem (slotAddr s.ctx 2) 2 (realFrame s.ctx) 1 s.mem

/-- The address of the IVT entry (R303). -/
def ivtAddr (s : State) (v : Vector8) : Word := s.ctx.idtr.base + BitVec.ofNat 64 (4 * v.toNat)

/-- The offset in the IVT entry, read after the pushes (R297). -/
def ivtIp (s : State) (v : Vector8) : Word := (realMem s).readLE (ivtAddr s v) 2

/-- The segment in the IVT entry, read after the pushes (R297). -/
def ivtCs (s : State) (v : Vector8) : Word := (realMem s).readLE (ivtAddr s v + 2#64) 2

/-- A real-mode delivery of `v` reaches its pushes: the IVT holds entry `v` (R297, R303). -/
structure RealReached (s : State) (v : Vector8) : Prop where
  lma : s.regs.lma = false
  pe : s.regs.pe = false
  idt : 4 * v.toNat + 3 ≤ s.ctx.idtr.limit.toNat
  port : s.portOk

/-- When a real-mode delivery of `v` completes (R297). -/
structure RealReady (s : State) (v : Vector8) : Prop extends RealReached s v where
  stack : slotsOk s.ctx 2 3
  limit : (ivtIp s v).toNat ≤ s.ctx.cs.cache.limit.toNat

/-- The state a real-mode delivery leaves: CS:IP from the IVT, IF, TF, AC and RF cleared (R297 to R301). -/
def realDelivered (s : State) (v : Vector8) (type : BitVec 3) : State :=
  deliveredWith s v type
    (frameHist (slotAddr s.ctx 2) 2 (.stack s.ctx.cpl) (realFrame s.ctx) 1
      ++ [.memR (ivtAddr s v) 2 .sys, .memR (ivtAddr s v + 2#64) 2 .sys])
    { s.ctx with
      rsp := mergeSp s.ctx.ss.cache.db s.ctx.rsp (slotOff s.ctx 2 3)
      cs := ⟨(ivtCs s v).setWidth 16, true, { s.ctx.cs.cache with base := ivtCs s v <<< 4 }⟩
      rip := ivtIp s v
      rflags := s.ctx.rflags &&& ~~~0x50300#64 }
    (realMem s)
    (legacySnapshot s)

/-! ### Descriptors and gates -/

/-- Whether the descriptor of `sel` lies inside its table (R323). -/
def descInTable (c : Context) (sel : Half) : Prop :=
  if sel.getLsbD 2 then c.ldtr.valid = true ∧ 8 * (sel.toNat / 8) + 7 ≤ c.ldtr.cache.limit.toNat
  else 8 * (sel.toNat / 8) + 7 ≤ c.gdtr.limit.toNat

/-- The address of the descriptor of `sel` (R323). -/
def descAddr (c : Context) (sel : Half) : Word :=
  (if sel.getLsbD 2 then c.ldtr.cache.base else c.gdtr.base) + BitVec.ofNat 64 (8 * (sel.toNat / 8))

/-- The descriptor of `sel` in the memory of `s` (R321, R323). -/
def descOf (s : State) (sel : Half) : Desc := parseDesc (s.mem.readLE (descAddr s.ctx sel) 8)

/-- The address of the protected-mode IDT entry (R324). -/
def idtAddr (s : State) (v : Vector8) : Word := s.ctx.idtr.base + BitVec.ofNat 64 (8 * v.toNat)

/-- The protected-mode gate of `v` in the memory of `s` (R322, R324). -/
def gateOf (s : State) (v : Vector8) : Gate := parseGate (s.mem.readLE (idtAddr s v) 8)

/-- The target code segment of the gate of `v` (R329). -/
def codeOf (s : State) (v : Vector8) : Desc := descOf s (gateOf s v).selector

/-- The entry size of a protected-mode frame (R328). -/
def entrySize (g : Gate) : Nat := if 14#4 ≤ g.type then 4 else 2

/-- A protected-mode delivery reaches its gate: the IDT holds entry `v` (R320, R324). -/
structure GateReached (s : State) (v : Vector8) : Prop where
  lma : s.regs.lma = false
  pe : s.regs.pe = true
  noCet : s.cfg.cetSupported = false
  idt : 8 * v.toNat + 7 ≤ s.ctx.idtr.limit.toNat
  port : s.portOk

/-- It passes the tests of the gate, which is an interrupt or trap gate (R325 to R327). -/
structure GatePassed (s : State) (v : Vector8) (soft : Bool) : Prop extends GateReached s v where
  system : (gateOf s v).s = false
  type : (gateOf s v).type = 6#4 ∨ (gateOf s v).type = 7#4 ∨ (gateOf s v).type = 14#4 ∨ (gateOf s v).type = 15#4
  dpl : soft = true → s.ctx.cpl ≤ (gateOf s v).dpl
  present : (gateOf s v).p = true

/-- It passes the tests of the target code segment too, so that the stack is chosen next (R329, R331). -/
structure CodePassed (s : State) (v : Vector8) (soft : Bool) : Prop extends GatePassed s v soft where
  notNull : selCode (gateOf s v).selector ≠ 0#16
  inTable : descInTable s.ctx (gateOf s v).selector
  code : (codeOf s v).s = true ∧ (codeOf s v).type.getLsbD 3 = true
  codeDpl : (codeOf s v).dpl ≤ s.ctx.cpl
  codePresent : (codeOf s v).p = true

/-- The tests of R320 that do not depend on the stack: R324 to R327, R329, and the offset inside the segment (R339,
R342). -/
structure GateReady (s : State) (v : Vector8) (soft : Bool) : Prop extends CodePassed s v soft where
  limit : (gateOf s v).offset.toNat ≤ (codeOf s v).limit.toNat

/-- RFLAGS after a gate: TF, NT, VM and RF cleared, and IF for an interrupt gate, whose type is even (R345, R372). -/
def gateFlags (g : Gate) (f : Word) : Word :=
  if g.type.getLsbD 0 then f &&& ~~~0x34100#64 else f &&& ~~~0x34300#64

/-- CS after a delivery to level `pl` (R340). -/
def csAfter (g : Gate) (c : Desc) (pl : BitVec 2) : SegReg :=
  ⟨(g.selector &&& 0xFFFC#16) ||| pl.setWidth 16, true, { c with s := true, p := true }⟩

/-! ### Same-level delivery (R337, R338) -/

/-- The entries of a same-level frame, highest address first (R338). -/
def sameFrame (c : Context) (push : Bool) (ec : Half) : List Word :=
  [c.rflags, c.cs.sel.setWidth 64, c.rip] ++ (if push then [ec.setWidth 64] else [])

/-- When a same-level delivery through the gate of `v` completes (R331, R337, R339). -/
structure SameReady (s : State) (v : Vector8) (soft push : Bool) : Prop extends GateReady s v soft where
  level : (codeOf s v).type.getLsbD 2 = true ∨ (codeOf s v).dpl = s.ctx.cpl
  notV86 : s.ctx.vm = false
  stack : slotsOk s.ctx (entrySize (gateOf s v)) (if push then 4 else 3)

/-- The state a same-level delivery leaves (R337, R338, R340, R345). -/
def sameDelivered (s : State) (v : Vector8) (type : BitVec 3) (push : Bool) (ec : Half) : State :=
  let g := gateOf s v
  let n := entrySize g
  deliveredWith s v type
    ([.memR (idtAddr s v) 8 .sys, .memR (descAddr s.ctx g.selector) 8 .sys]
      ++ frameHist (slotAddr s.ctx n) n (.stack s.ctx.cpl) (sameFrame s.ctx push ec) 1)
    { s.ctx with
      rsp := mergeSp s.ctx.ss.cache.db s.ctx.rsp (slotOff s.ctx n (if push then 4 else 3))
      cs := csAfter g (codeOf s v) s.ctx.cpl
      rip := g.offset
      rflags := gateFlags g s.ctx.rflags }
    (frameMem (slotAddr s.ctx n) n (sameFrame s.ctx push ec) 1 s.mem)
    (legacySnapshot s)

/-! ### Inner delivery (R332 to R336, R343) -/

/-- Whether TR is a 32-bit TSS (R333). -/
def tss32 (s : State) : Prop := s.ctx.tr.cache.type = 9#4 ∨ s.ctx.tr.cache.type = 11#4

/-- Whether TR is a 16-bit TSS (R333). -/
def tss16 (s : State) : Prop := s.ctx.tr.cache.type = 1#4 ∨ s.ctx.tr.cache.type = 3#4

/-- The offset of the stack pointer for level `pl` in a 32-bit or 16-bit TSS (R81, R333). -/
def tssOff (big : Bool) (pl : BitVec 2) : Nat := if big then 8 * pl.toNat + 4 else 4 * pl.toNat + 2

/-- The size of that stack pointer (R333). -/
def tssSize (big : Bool) : Nat := if big then 4 else 2

/-- The address of the stack pointer for level `pl`; the SS field follows it (R333). -/
def tssAddr (s : State) (big : Bool) (pl : BitVec 2) : Word := s.ctx.tr.cache.base + BitVec.ofNat 64 (tssOff big pl)

/-- The address of the SS field for level `pl` (R333). -/
def tssSsAddr (s : State) (big : Bool) (pl : BitVec 2) : Word :=
  s.ctx.tr.cache.base + BitVec.ofNat 64 (tssOff big pl + tssSize big)

/-- The new stack selector (R333). -/
def newSs (s : State) (big : Bool) (pl : BitVec 2) : Half := (s.mem.readLE (tssSsAddr s big pl) 2).setWidth 16

/-- The new stack pointer (R333). -/
def newSp (s : State) (big : Bool) (pl : BitVec 2) : Word := s.mem.readLE (tssAddr s big pl) (tssSize big)

/-- The offset of the `k`-th entry of the frame on the new stack (R332, R335). -/
def innerOff (s : State) (big : Bool) (pl : BitVec 2) (n k : Nat) : Word :=
  wrapSp (descOf s (newSs s big pl)).db (newSp s big pl - BitVec.ofNat 64 (n * k))

/-- Its linear address (R332; truncated to 32 bits, log entry 12). -/
def innerAddr (s : State) (big : Bool) (pl : BitVec 2) (n k : Nat) : Word :=
  legacyAddr (descOf s (newSs s big pl)).base (innerOff s big pl n k)

/-- The entries of an inner frame, highest address first (R335). -/
def innerEntries (c : Context) (push : Bool) (ec : Half) : List Word :=
  (if c.vm then [c.gs.sel.setWidth 64, c.fs.sel.setWidth 64, c.ds.sel.setWidth 64, c.es.sel.setWidth 64] else [])
    ++ [c.ss.sel.setWidth 64, c.rsp, c.rflags, c.cs.sel.setWidth 64, c.rip]
    ++ (if push then [ec.setWidth 64] else [])

/-- The transfer is privilege-raising (R331). -/
structure InnerLevel (s : State) (v : Vector8) (soft : Bool) : Prop extends CodePassed s v soft where
  conforming : (codeOf s v).type.getLsbD 2 = false
  level : (codeOf s v).dpl < s.ctx.cpl

/-- The new stack is in TR, a 32-bit TSS (`big`) or a 16-bit one (R333). -/
structure TssPassed (s : State) (v : Vector8) (soft big : Bool) : Prop extends InnerLevel s v soft where
  trValid : s.ctx.tr.valid = true
  trType : if big then tss32 s else tss16 s
  trLimit : tssOff big (codeOf s v).dpl + (if big then 7 else 3) ≤ s.ctx.tr.cache.limit.toNat

/-- The new stack segment passes its tests (R332, R334). -/
structure NewStackPassed (s : State) (v : Vector8) (soft big : Bool) : Prop extends TssPassed s v soft big where
  v86 : s.ctx.vm = true → (codeOf s v).dpl = 0#2
  ssNotNull : selCode (newSs s big (codeOf s v).dpl) ≠ 0#16
  ssInTable : descInTable s.ctx (newSs s big (codeOf s v).dpl)
  ssRpl : (newSs s big (codeOf s v).dpl).extractLsb' 0 2 = (codeOf s v).dpl
  ssDpl : (descOf s (newSs s big (codeOf s v).dpl)).dpl = (codeOf s v).dpl
  ssData : (descOf s (newSs s big (codeOf s v).dpl)).s = true
    ∧ (descOf s (newSs s big (codeOf s v).dpl)).type.getLsbD 3 = false
    ∧ (descOf s (newSs s big (codeOf s v).dpl)).type.getLsbD 1 = true
  ssPresent : (descOf s (newSs s big (codeOf s v).dpl)).p = true

/-- When an inner delivery through the gate of `v` completes, from a 32-bit TSS (`big`) or a 16-bit one (R331 to R334,
R339). -/
structure InnerReady (s : State) (v : Vector8) (soft push big : Bool) : Prop
    extends NewStackPassed s v soft big where
  limit : (gateOf s v).offset.toNat ≤ (codeOf s v).limit.toNat
  stack : ∀ k, 1 ≤ k → k ≤ (innerEntries s.ctx push 0#16).length →
    stackOk (descOf s (newSs s big (codeOf s v).dpl))
      (innerOff s big (codeOf s v).dpl (entrySize (gateOf s v)) k) (entrySize (gateOf s v)) = true

/-- A data segment register nulled on leaving V8086 (R343). -/
def nulled (r : SegReg) : SegReg := ⟨0#16, false, r.cache⟩

/-- The state an inner delivery leaves (R332, R335, R336, R340, R341, R343, R345). -/
def innerDelivered (s : State) (v : Vector8) (type : BitVec 3) (push big : Bool) (ec : Half) : State :=
  let g := gateOf s v
  let c := codeOf s v
  let pl := c.dpl
  let n := entrySize g
  let ss := descOf s (newSs s big pl)
  let entries := innerEntries s.ctx push ec
  let sp := innerOff s big pl n entries.length
  let seg := fun r => if s.ctx.vm then nulled r else r
  deliveredWith s v type
    ([.memR (idtAddr s v) 8 .sys, .memR (descAddr s.ctx g.selector) 8 .sys, .memR (tssSsAddr s big pl) 2 .sys,
        .memR (tssAddr s big pl) (tssSize big) .sys, .memR (descAddr s.ctx (newSs s big pl)) 8 .sys]
      ++ frameHist (innerAddr s big pl n) n (.stack pl) entries 1)
    { s.ctx with
      ss := ⟨(newSs s big pl &&& 0xFFFC#16) ||| pl.setWidth 16, true, { ss with s := true, p := true }⟩
      rsp := if ss.db then sp else (s.ctx.rsp &&& ~~~0xFFFF#64) ||| sp
      cs := csAfter g c pl
      cpl := pl
      gs := seg s.ctx.gs
      fs := seg s.ctx.fs
      ds := seg s.ctx.ds
      es := seg s.ctx.es
      rip := g.offset
      rflags := gateFlags g s.ctx.rflags }
    (frameMem (innerAddr s big pl n) n entries 1 s.mem)
    (legacySnapshot s)

/-! ### Long mode (R355 to R372) -/

/-- The address of the long-mode IDT entry (R356, R357). -/
def longIdtAddr (s : State) (v : Vector8) : Word := s.ctx.idtr.base + BitVec.ofNat 64 (16 * v.toNat)

/-- The second half of the long-mode gate of `v` (R356). -/
def longHigh (s : State) (v : Vector8) : Word := s.mem.readLE (longIdtAddr s v + 8#64) 8

/-- The long-mode gate of `v` in the memory of `s` (R356). -/
def longGateOf (s : State) (v : Vector8) : Gate := parseLongGate (s.mem.readLE (longIdtAddr s v) 8) (longHigh s v)

/-- Its target code segment (R362). -/
def longCodeOf (s : State) (v : Vector8) : Desc := descOf s (longGateOf s v).selector

/-- Whether the transfer is privilege-raising (R331, R355). -/
def longInner (s : State) (v : Vector8) : Bool :=
  !(longCodeOf s v).type.getLsbD 2 && decide ((longCodeOf s v).dpl < s.ctx.cpl)

/-- The level of the handler (R355). -/
def longLevel (s : State) (v : Vector8) : BitVec 2 := if longInner s v then (longCodeOf s v).dpl else s.ctx.cpl

/-- The stack of the TSS a delivery takes, if it takes one: the IST entry, or the stack of the inner level (R363, R364). -/
def longTssIndex (s : State) (v : Vector8) : Option Nat :=
  if (longGateOf s v).ist ≠ 0#3 then some ((longGateOf s v).ist.toNat + 3)
  else if longInner s v then some (longCodeOf s v).dpl.toNat else none

/-- The address of stack `k` in the 64-bit TSS (R81, R363). -/
def longTssAddr (s : State) (k : Nat) : Word := s.ctx.tr.cache.base + BitVec.ofNat 64 (8 * k + 4)

/-- The pointer the frame starts from, a multiple of 16 (R364, R365). -/
def longTop (s : State) (v : Vector8) : Word :=
  (match longTssIndex s v with
    | some k => s.mem.readLE (longTssAddr s k) 8
    | none => s.ctx.rsp) &&& 0xFFFFFFFFFFFFFFF0#64

/-- The address of the `k`-th entry (R366, R367). -/
def longSlot (s : State) (v : Vector8) (k : Nat) : Word := longTop s v - BitVec.ofNat 64 (8 * k)

/-- The entries of a long-mode frame, highest address first (R367). -/
def longEntries (c : Context) (push : Bool) (ec : Half) : List Word :=
  [c.ss.sel.setWidth 64, c.rsp, c.rflags, c.cs.sel.setWidth 64, c.rip] ++ (if push then [ec.setWidth 64] else [])

/-- A long-mode delivery reaches its gate: the IDT holds the 16 bytes of entry `v` (R355, R357). -/
structure LongGateReached (s : State) (v : Vector8) : Prop where
  lma : s.regs.lma = true
  noCet : s.cfg.cetSupported = false
  idt : 16 * v.toNat + 15 ≤ s.ctx.idtr.limit.toNat
  port : s.portOk

/-- It passes the tests of the gate (R355, R359 to R361). -/
structure LongGatePassed (s : State) (v : Vector8) (soft : Bool) : Prop extends LongGateReached s v where
  high : (longHigh s v).extractLsb' 40 5 = 0#5
  system : (longGateOf s v).s = false
  type : (longGateOf s v).type = 14#4 ∨ (longGateOf s v).type = 15#4
  dpl : soft = true → s.ctx.cpl ≤ (longGateOf s v).dpl
  present : (longGateOf s v).p = true

/-- It passes the tests of the target code segment too (R362). -/
structure LongCodePassed (s : State) (v : Vector8) (soft : Bool) : Prop extends LongGatePassed s v soft where
  notNull : selCode (longGateOf s v).selector ≠ 0#16
  inTable : descInTable s.ctx (longGateOf s v).selector
  code : (longCodeOf s v).s = true ∧ (longCodeOf s v).type.getLsbD 3 = true
  codeDpl : (longCodeOf s v).dpl ≤ s.ctx.cpl
  code64 : (longCodeOf s v).l = true ∧ (longCodeOf s v).db = false
  codePresent : (longCodeOf s v).p = true

/-- And the tests of the stack in the TSS, where it takes one (R363, R364). -/
structure LongTssPassed (s : State) (v : Vector8) (soft : Bool) : Prop extends LongCodePassed s v soft where
  tss : ∀ k, longTssIndex s v = some k →
    s.ctx.tr.valid = true ∧ tss32 s ∧ 8 * k + 4 + 7 ≤ s.ctx.tr.cache.limit.toNat

/-- When a long-mode delivery of `v` completes (R355). -/
structure LongReady (s : State) (v : Vector8) (soft push : Bool) : Prop extends LongTssPassed s v soft where
  stack : ∀ k, 1 ≤ k → k ≤ (if push then 6 else 5) → canonical (longSlot s v k) = true
  offset : canonical (longGateOf s v).offset = true

/-- The read of the stack pointer in the TSS, where the delivery takes one (R363, R364). -/
def longReads (s : State) (v : Vector8) : List Event :=
  match longTssIndex s v with
  | some k => [.memR (longTssAddr s k) 8 .sys]
  | none => []

/-- The state a long-mode delivery leaves (R355, R364 to R372). -/
def longDelivered (s : State) (v : Vector8) (type : BitVec 3) (push : Bool) (ec : Half) : State :=
  let g := longGateOf s v
  let pl := longLevel s v
  let entries := longEntries s.ctx push ec
  deliveredWith s v type
    ([.memR (longIdtAddr s v) 8 .sys, .memR (longIdtAddr s v + 8#64) 8 .sys, .memR (descAddr s.ctx g.selector) 8 .sys]
      ++ longReads s v ++ frameHist (longSlot s v) 8 (.stack pl) entries 1)
    { s.ctx with
      cs := csAfter g (longCodeOf s v) pl
      cpl := pl
      ss := if longInner s v then ⟨pl.setWidth 16, false, s.ctx.ss.cache⟩ else s.ctx.ss
      rsp := longSlot s v entries.length
      rip := g.offset
      rflags := gateFlags g s.ctx.rflags }
    (frameMem (longSlot s v) 8 entries 1 s.mem)
    s.exc

/-! ### Any delivery, and the stages of an exception before it -/

/-- `type` is software-originated (R106). -/
def softType (type : BitVec 3) : Bool := type == 4#3 || type == 6#3

/-- A delivery of `v` from `s` completes in `t`, whatever the mode routine. -/
inductive DeliversTo (s : State) (v : Vector8) (type : BitVec 3) (push : Bool) (ec : Half) : State → Prop
  | real (h : RealReady s v) : DeliversTo s v type push ec (realDelivered s v type)
  | same (h : SameReady s v (softType type) push) : DeliversTo s v type push ec (sameDelivered s v type push ec)
  | inner (big : Bool) (h : InnerReady s v (softType type) push big) :
    DeliversTo s v type push ec (innerDelivered s v type push big ec)
  | long (h : LongReady s v (softType type) push) : DeliversTo s v type push ec (longDelivered s v type push ec)

/-- The fault-class rollback (R264, R268): vectors 3 and 4 are traps and 18 an abort, all others roll back. -/
def rolledBack (v : Vector8) (s : State) : State :=
  if v = 3#8 ∨ v = 4#8 ∨ v = 18#8 then s
  else
    { s with
      ctx :=
        { s.ctx with
          rip := s.exc.prevRip
          rsp := if s.exc.specRsp then s.exc.prevRsp else s.ctx.rsp
          ssp := if s.exc.specRsp then s.exc.prevSsp else s.ctx.ssp
          rflags := if v = 1#8 then s.ctx.rflags else s.ctx.rflags ||| 0x10000#64 }
      exc := { s.exc with specRsp := false } }

/-- The debug registers of a #DB: its causes join DR6, DR7.GD is cleared (R270). -/
def debugCommitted (v : Vector8) (s : State) : State :=
  if v = 1#8 then
    { s with
      regs :=
        { s.regs with
          dr6 := (s.regs.dr6 &&& 0xFFFF6FF0#64) ||| (s.sched.debugTrap &&& 0xE00F#16).setWidth 64
          dr7 := s.regs.dr7 &&& ~~~0x2000#64 } }
  else s

/-- The class of vector `v` (R264). -/
def classOf (v : Vector8) : ExcClass :=
  if v = 8#8 then .doubleFault
  else if v = 14#8 ∨ v = 20#8 then .pageFault
  else if v = 0#8 ∨ v = 10#8 ∨ v = 11#8 ∨ v = 12#8 ∨ v = 13#8 ∨ v = 21#8 then .contributory
  else .benign

/-- Whether vector `v` pushes an error code (R264). -/
def pushesCode (v : Vector8) : Bool :=
  v == 8#8 || v == 10#8 || v == 11#8 || v == 12#8 || v == 13#8 || v == 14#8 || v == 17#8 || v == 21#8

/-- The error code after the EXT fix-up (R265). -/
def fixedCode (v : Vector8) (ec : Half) (ext : Bool) : Half :=
  if v = 14#8 ∨ v = 8#8 ∨ v = 21#8 then ec else (ec &&& 0xFFFE#16) ||| (if ext then 1#16 else 0#16)

/-- The state in which an exception `v` that neither exits nor escalates is delivered (R262, R268 to R271). -/
def excStaged (v : Vector8) (s : State) : State :=
  let t := debugCommitted v (rolledBack v s)
  { t with exc := { t.exc with extBit := true, lastType := classOf v } }

/-- The exception `v` with code `ec` raised in `s` is delivered and resolved, and leaves `t` (R262, R272, R273, R275). -/
structure ExceptionTo (s : State) (v : Vector8) (ec : Half) (t : State) : Prop where
  vector : v < 32#8
  notIntercepted :
    plainAnswer s (.exc v (fixedCode v ec s.exc.extBit) (pushesCode v) 3#3 s.exc.extBit s.exc.inEvent) = none
  notDouble : s.exc.lastType ≠ .doubleFault
  compatible : classOf v = .doubleFault ∨ s.exc.lastType = .benign
    ∨ (s.exc.lastType = .contributory ∧ classOf v ≠ .contributory)
    ∨ (s.exc.lastType = .pageFault ∧ classOf v = .benign)
  delivers : ∃ u,
    DeliversTo (excStaged v s) v 3#3 (pushesCode v && (excStaged v s).mode != .real)
      (if (excStaged v s).mode = .real then 0#16 else fixedCode v ec s.exc.extBit) u
    ∧ t = { u with exc := { u.exc with lastType := .benign } }

/-! ### Ends of a command -/

/-- The state an internal error leaves (R404). -/
def State.abortedBy (r : AbortReason) (s : State) : State := (s.setAborted true).setHist (s.hist ++ [.abort r])

/-- The state a VM exit leaves: the entry in the history and the three resets (R212, log entry 15). -/
def State.exited (i : ExitInfo) (s : State) : State :=
  (s.setHist (s.hist ++ [.vmExit i.reason i.qualification])).setExc
    { s.exc with inEvent := false, extBit := false, lastType := .benign }

/-- What `raise #v(ec)` comes to in state `s` (R7): what the command `RAISE v, ec` answers there. -/
def raisedIn (v : Vector8) (ec : Half) (s : State) : Host.Outcome State Fault Refusal := exec (.raise v ec 0#64) s

/-- The outcome `K` in state `s` (R7, R102). -/
def doneIn (a : Answer) (s : State) : Host.Outcome State Fault Refusal := .next (s.respond a)

/-- The command may act: nothing aborted before it (R61), and CPL 0 (R130, stage 2). -/
structure Supervisor (s : State) : Prop where
  live : s.aborted = false
  cpl : s.ctx.cpl = 0#2

/-- The control-register numbers and debug-register numbers that select nothing (R104, R105). -/
def undefinedRow : Instr → Bool
  | .wrcr1Ud | .wrcr5Ud | .wrcr6_7Ud _ | .wrcr9Ud | .wrcr10_11Ud _ | .wrcr12_15Ud _ => true
  | .rdcr1Ud | .rdcr5Ud | .rdcr6_7Ud _ | .rdcr9Ud | .rdcr10_11Ud _ | .rdcr12_15Ud _ => true
  | .wrdr8_15Ud _ | .rddr8_15Ud _ => true
  | _ => false

/-! ### PDPTEs (R142) -/

/-- The address of entry `i` of the table at `c`. -/
def pdpteAddr (c : Word) (i : Nat) : Word := (c &&& 0xFFFFFFE0#64) + BitVec.ofNat 64 (8 * i)

/-- Entry `i` in the physical memory of `s`. -/
def pdpteAt (s : State) (c : Word) (i : Nat) : Word := s.phys.readLE (pdpteAddr c i) 8

/-- A present entry has no reserved bit: 1, 2, 5, 6, 7, 8, and none from `PHY_ADDR_WIDTH` up. -/
def pdpteOk (c : Config) (e : Word) : Prop :=
  e.getLsbD 0 = true → e &&& 0x1E6#64 = 0#64 ∧ e.toNat < 2 ^ c.phyAddrWidth

/-- All four entries pass. -/
def PdptesOk (s : State) (c : Word) : Prop := ∀ i, i < 4 → pdpteOk s.cfg (pdpteAt s c i)

/-- Entry `n` is the first that does not pass. -/
def FirstBadPdpte (s : State) (c : Word) (n : Nat) : Prop :=
  n < 4 ∧ (∀ i, i < n → pdpteOk s.cfg (pdpteAt s c i)) ∧ ¬pdpteOk s.cfg (pdpteAt s c n)

/-- The reads of the first `n` entries. -/
def pdpteReads (c : Word) (n : Nat) : List Event := (List.range n).map fun i => .memR (pdpteAddr c i) 8 .phys

/-- The reads of all four entries and their hand-over to the paging service. -/
def pdptesLoaded (s : State) (c : Word) : List Event :=
  pdpteReads c 4 ++ [.pdptrLoad (pdpteAt s c 0) (pdpteAt s c 1) (pdpteAt s c 2) (pdpteAt s c 3)]

/-! ### CR0 (R131 to R138) -/

/-- The value CR0 takes (R137). -/
def cr0Value (level : CpuLevel) (v : Word) : Word :=
  match level with
  | .l3 => (v &&& 0xFFFFFFFF#64) ||| 0x7FFFFFF0#64
  | .l5 => (v &&& 0xFFFFFFFF#64) ||| 0x10#64
  | .l4 => (v ||| 0x10#64) &&& 0xE005003F#64
  | .l6 => (v ||| 0x10#64) &&& 0xE005003F#64

/-- None of the four reasons of R132, with the exception of R133. -/
structure Cr0Legal (s : State) (v : Word) : Prop where
  upper : v.extractLsb' 32 32 = 0#32
  pg : s.inp.inSvmGuest = false → v.getLsbD 31 = true → v.getLsbD 0 = true
  nw : 4 ≤ s.cfg.cpuLevel.toNat → v.getLsbD 29 = true → v.getLsbD 30 = true
  wp : s.regs.cr4.getLsbD 23 = true → v.getLsbD 16 = true

/-- The write turns paging on. -/
def cr0Enters (s : State) (v : Word) : Bool := !s.regs.cr0.getLsbD 31 && v.getLsbD 31

/-- The write turns paging off. -/
def cr0Leaves (s : State) (v : Word) : Bool := s.regs.cr0.getLsbD 31 && !v.getLsbD 31

/-- The prerequisites of entering long mode (R134). -/
def LongEntryOk (s : State) (v : Word) : Prop :=
  cr0Enters s v = true → s.regs.efer.getLsbD 8 = true →
    s.regs.cr4.getLsbD 5 = true ∧ s.ctx.cs.cache.l = false ∧ 3#4 < s.ctx.tr.cache.type

/-- The prerequisites of leaving it (R135). -/
def LongExitOk (s : State) (v : Word) : Prop :=
  cr0Leaves s v = true →
    s.mode ≠ .long64 ∧ (s.regs.efer.getLsbD 10 = true → s.regs.cr4.getLsbD 17 = false)

/-- EFER after the write: LMA is set on entry to long mode and cleared on exit (R134, R135). -/
def cr0Efer (s : State) (v : Word) : Word :=
  if cr0Enters s v && s.regs.efer.getLsbD 8 then s.regs.efer ||| 0x400#64
  else if cr0Leaves s v then s.regs.efer &&& ~~~0x400#64
  else s.regs.efer

/-- The write validates the PDPTEs (R136). -/
def cr0Walks (s : State) (v : Word) : Bool :=
  v.getLsbD 31 && s.regs.cr4.getLsbD 5 && !(cr0Efer s v).getLsbD 10

/-- The write is accepted (R131). -/
structure Cr0Accepts (s : State) (v : Word) : Prop extends Cr0Legal s v where
  entry : LongEntryOk s v
  exit : LongExitOk s v
  pdptes : cr0Walks s v = true → PdptesOk s s.regs.cr3

/-- The state an accepted write leaves, before its response (R131, R138). -/
def cr0Accepted (s : State) (v : Word) : State :=
  let r := { s.regs with cr0 := cr0Value s.cfg.cpuLevel v, efer := cr0Efer s v }
  (s.setRegs r).logged
    ((if cr0Walks s v then pdptesLoaded s s.regs.cr3 else [])
      ++ (if (s.regs.cr0 ^^^ cr0Value s.cfg.cpuLevel v) &&& 0x80010001#64 ≠ 0#64 then [.tlbFlush .all] else [])
      ++ [.modeChange (modeOf r s.ctx)])

/-! ### CR3 (R140, R141, R143) -/

/-- The value CR3 takes: the hint bit goes when PCIDs are enabled (R140). -/
def cr3Stored (s : State) (v : Word) : Word :=
  if s.regs.cr4.getLsbD 17 then v &&& 0x7FFFFFFFFFFFFFFF#64 else v

/-- The write validates the PDPTEs (R140). -/
def cr3Walks (s : State) : Bool :=
  s.regs.cr0.getLsbD 31 && s.regs.cr4.getLsbD 5 && !s.regs.efer.getLsbD 10

/-- The write is accepted (R140, R141). -/
structure Cr3Accepts (s : State) (v : Word) : Prop where
  long : s.regs.efer.getLsbD 10 = true → (cr3Stored s v).toNat < 2 ^ s.cfg.phyAddrWidth
  legacy : s.regs.efer.getLsbD 10 = false → (cr3Stored s v).toNat < 2 ^ 32
  pdptes : cr3Walks s = true → PdptesOk s (cr3Stored s v)

/-- The flush of a CR3 write (R140, R143). -/
def cr3Flush (s : State) (v : Word) : List Event :=
  if s.regs.cr4.getLsbD 17 && v.getLsbD 63 then []
  else if s.regs.cr4.getLsbD 7 then [.tlbFlush .nonglobal] else [.tlbFlush .all]

/-! ### CR4 (R145 to R149) -/

/-- None of the seven reasons of R147. -/
structure Cr4Legal (s : State) (v : Word) : Prop where
  allowed : v &&& ~~~(cr4Allow s.cfg) = 0#64
  pae : s.regs.efer.getLsbD 10 = true → v.getLsbD 5 = true
  pcide : s.regs.efer.getLsbD 10 = false → v.getLsbD 17 = false
  cr3Low : v.getLsbD 17 = true → s.regs.cr4.getLsbD 17 = false → s.regs.cr3.extractLsb' 0 12 = 0#12
  vmxe : s.inp.inGuest = true → s.regs.cr4.getLsbD 13 = true → v.getLsbD 13 = true
  smm : s.inp.inSmm = true → v.getLsbD 13 = false
  cet : v.getLsbD 23 = true → s.regs.cr0.getLsbD 16 = true

/-- One of PGE, PAE, PSE, PCIDE, SMEP changes (R145, R149). -/
def cr4Changes (s : State) (v : Word) : Bool :=
  [4, 5, 7, 17, 20].any fun i => s.regs.cr4.getLsbD i != v.getLsbD i

/-- The write validates the PDPTEs (R148). -/
def cr4Walks (s : State) (v : Word) : Bool :=
  cr4Changes s v && s.regs.cr0.getLsbD 31 && v.getLsbD 5 && !s.regs.efer.getLsbD 10

/-! ### I/O permission (R190 to R200) -/

/-- The bitmap is consulted (R192): CR0.PE set and CPL above IOPL. -/
def ioChecked (s : State) : Prop := s.regs.cr0.getLsbD 0 = true ∧ s.ctx.iopl < s.ctx.cpl

/-- TR holds "a valid, present 32-bit TSS with limit ≥103" (R191, R193). -/
def ioTss (s : State) : Prop :=
  s.ctx.tr.valid = true ∧ s.ctx.tr.cache.p = true ∧ (s.ctx.tr.cache.type = 9#4 ∨ s.ctx.tr.cache.type = 11#4)
    ∧ 103 ≤ s.ctx.tr.cache.limit.toNat

/-- The address of the I/O-map base (R194). -/
def ioMapAddr (s : State) : Word := s.ctx.tr.cache.base + 102#64

/-- The offset of the permission word, a sum without wrap (R191, R194). -/
def ioOff (s : State) (port : Half) : Nat := (s.mem.readLE (ioMapAddr s) 2).toNat + port.toNat / 8

/-- The address of the permission word (R194). -/
def ioWordAddr (s : State) (port : Half) : Word := s.ctx.tr.cache.base + BitVec.ofNat 64 (ioOff s port)

/-- Bit `port % 8 + j` of the permission word (R191, R196). -/
def ioBit (s : State) (port : Half) (j : Nat) : Bool :=
  (s.mem.readLE (ioWordAddr s port) 2).getLsbD (port.toNat % 8 + j)

/-- The reads of a check that gets to the permission word. -/
def ioReads (s : State) (port : Half) : List Event :=
  [.memR (ioMapAddr s) 2 .sys, .memR (ioWordAddr s port) 2 .sys]

/-- The permission check grants, with the accesses it makes (R191). -/
inductive IoGranted (s : State) (width : BitVec 8) (port : Half) : List Event → Prop
  | unchecked (h : ¬ioChecked s) : IoGranted s width port []
  | bitmap (h : ioChecked s) (tss : ioTss s) (bound : ioOff s port < s.ctx.tr.cache.limit.toNat)
    (clear : ∀ j, j < width.toNat → ioBit s port j = false) (ok : s.portOk) : IoGranted s width port (ioReads s port)

/-- Breakpoint `i`, whose address register is `dr`, is an enabled I/O breakpoint that overlaps the access (R200). -/
def ioHit (r : ControlRegs) (dr : Word) (i : Nat) (port : Half) (width : BitVec 8) : Bool :=
  let len := r.dr7.extractLsb' (18 + 4 * i) 2
  let size := if len = 0#2 then 1 else if len = 1#2 then 2 else if len = 2#2 then 8 else 4
  let start := dr.toNat - dr.toNat % size
  (r.dr7.getLsbD (2 * i) || r.dr7.getLsbD (2 * i + 1)) && decide (r.dr7.extractLsb' (16 + 4 * i) 2 = 2#2)
    && decide (start < port.toNat + width.toNat) && decide (port.toNat < start + size)

/-- The breakpoint hits of an access, bit `i` for breakpoint `i` (R200). -/
def ioHits (r : ControlRegs) (port : Half) (width : BitVec 8) : BitVec 16 :=
  if r.cr4.getLsbD 3 then
    (if ioHit r r.dr0 0 port width then 1#16 else 0#16) ||| (if ioHit r r.dr1 1 port width then 2#16 else 0#16)
      ||| (if ioHit r r.dr2 2 port width then 4#16 else 0#16) ||| (if ioHit r r.dr3 3 port width then 8#16 else 0#16)
  else 0#16

/-! ### The debug registers (R173 to R179) -/

/-- An access to debug register `n` passes its first three stages (R174, R178). -/
structure DrPasses (s : State) (n : DrNum) (dir : Dir) : Prop extends Supervisor s where
  gd : s.regs.dr7.getLsbD 13 = false
  pass : plainAnswer s (.dr n dir) = none

/-- The accesses whose register number stands for a debug register when CR4.DE is `de` (R173, R175). -/
def drAccessRow (de : Bool) : Instr → Bool
  | .wrdr0 _ | .wrdr1 _ | .wrdr2 _ | .wrdr3 _ | .wrdr6 _ | .wrdr7 _ => true
  | .rddr0 | .rddr1 | .rddr2 | .rddr3 | .rddr6 | .rddr7 => true
  | .wrdr4 _ | .wrdr5 _ | .rddr4 | .rddr5 => !de
  | _ => false

/-- The register and the direction of that access, as the layer is asked about it: the number after alias resolution
(R174, R175, R178). -/
def drQuery (de : Bool) : Instr → Option (DrNum × Dir)
  | .wrdr0 _ => some (.dr0, .write)
  | .wrdr1 _ => some (.dr1, .write)
  | .wrdr2 _ => some (.dr2, .write)
  | .wrdr3 _ => some (.dr3, .write)
  | .wrdr6 _ => some (.dr6, .write)
  | .wrdr7 _ => some (.dr7, .write)
  | .wrdr4 _ => if de then none else some (.dr6, .write)
  | .wrdr5 _ => if de then none else some (.dr7, .write)
  | .rddr0 => some (.dr0, .read)
  | .rddr1 => some (.dr1, .read)
  | .rddr2 => some (.dr2, .read)
  | .rddr3 => some (.dr3, .read)
  | .rddr6 => some (.dr6, .read)
  | .rddr7 => some (.dr7, .read)
  | .rddr4 => if de then none else some (.dr6, .read)
  | .rddr5 => if de then none else some (.dr7, .read)
  | _ => none

/-- The bits of DR6 that software can change (R176; up to level 4 log entry 34). -/
def dr6Writable (c : Config) : Word := if 5 ≤ c.cpuLevel.toNat then 0xE00F#64 else 0xF00F#64

/-- The bits of DR7 that a write stores (R177; up to level 4 log entry 34). -/
def dr7Writable (c : Config) : Word := if 5 ≤ c.cpuLevel.toNat then 0xFFFF2FFF#64 else 0xFFFFFFFF#64

/-! ### The per-boundary pass (R220 to R253) -/

/-- `Unmasked(e)` (R50). -/
def evOn (s : State) (e : Nat) : Prop := s.sched.pending.getLsbD e = true ∧ s.sched.mask.getLsbD e = false

/-- The effective GIF (R229). -/
def gifIs1 (s : State) : Prop := s.cfg.nested ≠ .svm ∨ s.inp.gif = true

/-- RFLAGS.IF. -/
def ifIs1 (s : State) : Prop := s.ctx.rflags.getLsbD 9 = true

/-- `Wake()` (R223). -/
def Wakes (s : State) : Prop :=
  s.sched.activity ≠ .waitForSipi ∧
    (((s.sched.pending.getLsbD 10 = true ∨ s.sched.pending.getLsbD 11 = true)
        ∧ ((ifIs1 s ∧ s.sched.activity ≠ .shutdown) ∨ s.sched.activity = .mwaitIf))
      ∨ (ifIs1 s ∧ (evOn s 9 ∨ evOn s 8))
      ∨ evOn s 0 ∨ evOn s 1 ∨ evOn s 2 ∨ evOn s 7 ∨ evOn s 5)

/-- The state with the pending bit of event `e` cleared. -/
def clearedEvent (s : State) (e : Nat) : State :=
  s.setSched { s.sched with pending := s.sched.pending &&& ~~~(1#16 <<< e) }

/-- The pass gets past step 1 (R223, R226). -/
structure PastStep1 (s : State) : Prop where
  live : s.aborted = false
  active : s.sched.activity = .active
  kill : s.inp.killRequest = false

/-- Past steps 2 and 3 with nothing done (R231, R232). -/
structure PastStep3 (s : State) : Prop extends PastStep1 s where
  taskTrap : s.sched.debugTrap.getLsbD 15 = false
  vtpr : ¬evOn s 12
  veoi : ¬evOn s 13
  vapicwr : ¬evOn s 14

/-- Past step 4 with nothing done (R233 to R235). -/
structure PastStep4 (s : State) : Prop extends PastStep3 s where
  smi : evOn s 1 → ¬gifIs1 s
  init : evOn s 2 → ¬gifIs1 s
  mtf : ¬evOn s 4

/-- At step 6: there is no debug trap, or it is inhibited and lost (R236, R237). -/
structure AtStep6 (s : State) : Prop extends PastStep4 s where
  noTrap : s.sched.debugTrap = 0#16 ∨ s.sched.inhibit.getLsbD 1 = true

/-- The state at step 6: an inhibited debug trap is lost (R237). -/
def trapLost (s : State) : State := s.setSched { s.sched with debugTrap := 0#16 }

/-- Step 6 is open (R238). -/
structure Step6Open (s : State) : Prop extends AtStep6 s where
  inhibit : s.sched.inhibit.getLsbD 0 = false
  gif : gifIs1 s

/-- Step 6 takes nothing (R238): it is inhibited, or GIF is 0, or no event of it is waiting. -/
def Step6Silent (s : State) : Prop :=
  s.sched.inhibit.getLsbD 0 = true ∨ ¬gifIs1 s
    ∨ (¬evOn s 5 ∧ ¬evOn s 7 ∧ ¬evOn s 0 ∧ ¬evOn s 15
        ∧ (ifIs1 s → ¬evOn s 6 ∧ ¬evOn s 10 ∧ ¬evOn s 11 ∧ ¬evOn s 9 ∧ ¬evOn s 8))

/-- What the end of the pass leaves of the scheduler state (R251, R252). -/
def passEnd (s : State) (debugTrap : BitVec 16) : Sched :=
  { s.sched with
    debugTrap := if s.ctx.rflags.getLsbD 8 then debugTrap ||| 0x4000#16 else debugTrap
    inhibit := 0#2 }

/-- No event that goes before the maskable interrupts is waiting (R238). -/
structure MaskableTurn (s : State) : Prop extends Step6Open s where
  preempt : ¬evOn s 5
  vnmi : ¬evOn s 7
  nmi : ¬evOn s 0
  intwin : ifIs1 s → ¬evOn s 6

/-- The state in which the NMI is delivered (R241). -/
def nmiTaken (s : State) : State :=
  (s.setSched { s.sched with pending := s.sched.pending &&& 0xFFFE#16, mask := s.sched.mask ||| 1#16 }).setExc
    { s.exc with extBit := true }

/-- The state in which an acknowledged interrupt of event `e` is delivered (R243). -/
def interruptTaken (s : State) (e : Nat) (acks : List Event) : State :=
  ((clearedEvent s e).logged acks).setExc { s.exc with extBit := true }

/-! ### The state in which a mode routine runs (R292), and what its tests find -/

/-- The state in which the mode routine of a legacy delivery runs. -/
def legacyStart (s : State) : State :=
  ((s.setSched { s.sched with debugTrap := 0#16, inhibit := 0#2 }).setExc
    { s.exc with inEvent := true, prevRsp := s.ctx.rsp, prevSsp := s.ctx.ssp, specRsp := true })

/-- The state in which the long-mode routine runs. -/
def longStartState (s : State) : State :=
  ((s.setSched { s.sched with debugTrap := 0#16, inhibit := 0#2 }).setExc { s.exc with inEvent := true })

/-- The error code of a defect of the gate of `v` (R324, R357). -/
def gateCode (v : Vector8) : Half := BitVec.ofNat 16 (8 * v.toNat + 2)

/-- An `INT` gets to its delivery (R290): the type is one of R106's, and a software exception is not intercepted. -/
structure IntEnters (s : State) (v : Vector8) (type : BitVec 3) (push : Bool) (ec : Half) : Prop where
  live : s.aborted = false
  typeOk : type ≠ 1#3 ∧ type ≠ 7#3
  pass : type = 5#3 ∨ type = 6#3 → plainAnswer s (.exc v ec push type s.exc.extBit s.exc.inEvent) = none

/-- The state after the gate of `v` was read. -/
def gateRead (s : State) (v : Vector8) : State := (legacyStart s).accessed [.memR (idtAddr s v) 8 .sys]

/-- The gate of `v` has a type of the protected-mode IDT (R325). -/
def protGateType (g : Gate) : Prop :=
  g.s = false ∧ (g.type = 5#4 ∨ g.type = 6#4 ∨ g.type = 7#4 ∨ g.type = 14#4 ∨ g.type = 15#4)

/-- The state after both halves of the long-mode gate of `v` were read. -/
def longGateRead (s : State) (v : Vector8) : State :=
  (longStartState s).accessed [.memR (longIdtAddr s v) 8 .sys, .memR (longIdtAddr s v + 8#64) 8 .sys]

/-- The gate of `v` has a type of the long-mode IDT, and the bits that must be 0 are (R356, R359). -/
def longGateType (s : State) (v : Vector8) : Prop :=
  (longGateOf s v).s = false ∧ ((longGateOf s v).type = 14#4 ∨ (longGateOf s v).type = 15#4)

/-- A delivery passes the tests of the gate, which is a task gate (R325 to R327, R330). -/
structure TaskGatePassed (s : State) (v : Vector8) (soft : Bool) : Prop extends GateReached s v where
  gate : (gateOf s v).s = false ∧ (gateOf s v).type = 5#4
  dpl : soft = true → s.ctx.cpl ≤ (gateOf s v).dpl
  present : (gateOf s v).p = true

/-- A task gate of `v` hands over (R330). -/
structure TaskGateReady (s : State) (v : Vector8) (soft : Bool) : Prop extends TaskGatePassed s v soft where
  gdt : (gateOf s v).selector.getLsbD 2 = false
  inTable : descInTable s.ctx (gateOf s v).selector
  tss : (codeOf s v).s = false ∧ ((codeOf s v).type = 1#4 ∨ (codeOf s v).type = 9#4)
  tssPresent : (codeOf s v).p = true

/-! ### The later tests of a delivery, in their order: the vector each raises, its code, and the state it is raised in -/

/-- The state after the gate and the target code segment were read (R320). -/
def codeRead (s : State) (v : Vector8) : State :=
  (gateRead s v).accessed [.memR (descAddr s.ctx (gateOf s v).selector) 8 .sys]

/-- The state after the stack pointer of the inner level was read too (R333). -/
def tssRead (s : State) (v : Vector8) (big : Bool) : State :=
  (codeRead s v).accessed
    [.memR (tssSsAddr s big (codeOf s v).dpl) 2 .sys, .memR (tssAddr s big (codeOf s v).dpl) (tssSize big) .sys]

/-- The state after the new stack segment was read too (R332). -/
def ssRead (s : State) (v : Vector8) (big : Bool) : State :=
  (tssRead s v big).accessed [.memR (descAddr s.ctx (newSs s big (codeOf s v).dpl)) 8 .sys]

/-- The faults of a real-mode delivery after the IVT limit (R296, R297, R299). -/
inductive RealFault (s : State) (v : Vector8) : Vector8 → Half → State → Prop
  | stack (j : Nat) (h : RealReached s v) (bad : FirstBadSlot s.ctx 2 3 j) :
    RealFault s v 12#8 0#16 ((legacyStart s).pushedOn 2 ((realFrame s.ctx).take j))
  | limit (h : RealReached s v) (stack : slotsOk s.ctx 2 3) (beyond : s.ctx.cs.cache.limit.toNat < (ivtIp s v).toNat) :
    RealFault s v 13#8 0#16 (((legacyStart s).pushedOn 2 (realFrame s.ctx)).accessed [.memR (ivtAddr s v) 2 .sys])

/-- The faults on the target code segment of a protected-mode gate (R329). -/
inductive CodeFault (s : State) (v : Vector8) (soft : Bool) : Vector8 → Half → State → Prop
  | null (h : GatePassed s v soft) (null : selCode (gateOf s v).selector = 0#16) :
    CodeFault s v soft 13#8 0#16 (gateRead s v)
  | table (h : GatePassed s v soft) (notNull : selCode (gateOf s v).selector ≠ 0#16)
    (outside : ¬descInTable s.ctx (gateOf s v).selector) :
    CodeFault s v soft 13#8 (selCode (gateOf s v).selector) (gateRead s v)
  | code (h : GatePassed s v soft) (notNull : selCode (gateOf s v).selector ≠ 0#16)
    (inTable : descInTable s.ctx (gateOf s v).selector)
    (bad : (codeOf s v).s = false ∨ (codeOf s v).type.getLsbD 3 = false ∨ s.ctx.cpl < (codeOf s v).dpl) :
    CodeFault s v soft 13#8 (selCode (gateOf s v).selector) (codeRead s v)
  | absent (h : GatePassed s v soft) (notNull : selCode (gateOf s v).selector ≠ 0#16)
    (inTable : descInTable s.ctx (gateOf s v).selector)
    (code : (codeOf s v).s = true ∧ (codeOf s v).type.getLsbD 3 = true) (codeDpl : (codeOf s v).dpl ≤ s.ctx.cpl)
    (absent : (codeOf s v).p = false) :
    CodeFault s v soft 11#8 (selCode (gateOf s v).selector) (codeRead s v)

/-- The faults on the TSS descriptor of a task gate (R330). -/
inductive TaskGateFault (s : State) (v : Vector8) (soft : Bool) : Vector8 → Half → State → Prop
  | ldt (h : TaskGatePassed s v soft) (ldt : (gateOf s v).selector.getLsbD 2 = true) :
    TaskGateFault s v soft 13#8 (selCode (gateOf s v).selector) (gateRead s v)
  | table (h : TaskGatePassed s v soft) (gdt : (gateOf s v).selector.getLsbD 2 = false)
    (outside : ¬descInTable s.ctx (gateOf s v).selector) :
    TaskGateFault s v soft 13#8 (selCode (gateOf s v).selector) (gateRead s v)
  | tss (h : TaskGatePassed s v soft) (gdt : (gateOf s v).selector.getLsbD 2 = false)
    (inTable : descInTable s.ctx (gateOf s v).selector)
    (bad : (codeOf s v).s = true ∨ ((codeOf s v).type ≠ 1#4 ∧ (codeOf s v).type ≠ 9#4)) :
    TaskGateFault s v soft 13#8 (selCode (gateOf s v).selector) (codeRead s v)
  | absent (h : TaskGatePassed s v soft) (gdt : (gateOf s v).selector.getLsbD 2 = false)
    (inTable : descInTable s.ctx (gateOf s v).selector)
    (tss : (codeOf s v).s = false ∧ ((codeOf s v).type = 1#4 ∨ (codeOf s v).type = 9#4))
    (absent : (codeOf s v).p = false) :
    TaskGateFault s v soft 11#8 (selCode (gateOf s v).selector) (codeRead s v)

/-- The faults of a same-level delivery after the code segment (R337, R342, R296). -/
inductive SameFault (s : State) (v : Vector8) (soft push : Bool) : Vector8 → Half → State → Prop
  | v86 (h : CodePassed s v soft) (level : (codeOf s v).type.getLsbD 2 = true ∨ (codeOf s v).dpl = s.ctx.cpl)
    (vm : s.ctx.vm = true) :
    SameFault s v soft push 13#8 (selCode (gateOf s v).selector) (codeRead s v)
  | limit (h : CodePassed s v soft) (level : (codeOf s v).type.getLsbD 2 = true ∨ (codeOf s v).dpl = s.ctx.cpl)
    (vm : s.ctx.vm = false) (beyond : (codeOf s v).limit.toNat < (gateOf s v).offset.toNat) :
    SameFault s v soft push 13#8 0#16 (codeRead s v)
  | stack (j : Nat) (h : GateReady s v soft)
    (level : (codeOf s v).type.getLsbD 2 = true ∨ (codeOf s v).dpl = s.ctx.cpl) (vm : s.ctx.vm = false)
    (bad : FirstBadSlot s.ctx (entrySize (gateOf s v)) (if push then 4 else 3) j) :
    SameFault s v soft push 12#8 0#16
      ((codeRead s v).pushedOn (entrySize (gateOf s v)) ((sameFrame s.ctx push 0#16).take j))

/-- Of the entries of an inner frame, the first `j` pass the limit check of the new stack and the next does not (R296). -/
def FirstBadInnerSlot (s : State) (v : Vector8) (push big : Bool) (j : Nat) : Prop :=
  let ok := fun k => stackOk (descOf s (newSs s big (codeOf s v).dpl))
    (innerOff s big (codeOf s v).dpl (entrySize (gateOf s v)) k) (entrySize (gateOf s v))
  j < (innerEntries s.ctx push 0#16).length ∧ (∀ k, 1 ≤ k → k ≤ j → ok k = true) ∧ ok (j + 1) = false

/-- The faults of an inner delivery after the code segment (R332 to R334, R342, R296). The frame lies where log entry 12
puts it. -/
inductive InnerFault (s : State) (v : Vector8) (soft push big : Bool) : Vector8 → Half → State → Prop
  | tss (h : InnerLevel s v soft) (trValid : s.ctx.tr.valid = true) (trType : if big then tss32 s else tss16 s)
    (short : s.ctx.tr.cache.limit.toNat < tssOff big (codeOf s v).dpl + (if big then 7 else 3)) :
    InnerFault s v soft push big 10#8 (selCode s.ctx.tr.sel) (codeRead s v)
  | v86 (h : TssPassed s v soft big) (vm : s.ctx.vm = true) (dpl : (codeOf s v).dpl ≠ 0#2) :
    InnerFault s v soft push big 13#8 (selCode (gateOf s v).selector) (tssRead s v big)
  | null (h : TssPassed s v soft big) (v86 : s.ctx.vm = true → (codeOf s v).dpl = 0#2)
    (null : selCode (newSs s big (codeOf s v).dpl) = 0#16) :
    InnerFault s v soft push big 10#8 0#16 (tssRead s v big)
  | table (h : TssPassed s v soft big) (v86 : s.ctx.vm = true → (codeOf s v).dpl = 0#2)
    (notNull : selCode (newSs s big (codeOf s v).dpl) ≠ 0#16)
    (outside : ¬descInTable s.ctx (newSs s big (codeOf s v).dpl)) :
    InnerFault s v soft push big 10#8 (selCode (newSs s big (codeOf s v).dpl)) (tssRead s v big)
  | segment (h : TssPassed s v soft big) (v86 : s.ctx.vm = true → (codeOf s v).dpl = 0#2)
    (notNull : selCode (newSs s big (codeOf s v).dpl) ≠ 0#16)
    (inTable : descInTable s.ctx (newSs s big (codeOf s v).dpl))
    (bad : (newSs s big (codeOf s v).dpl).extractLsb' 0 2 ≠ (codeOf s v).dpl
      ∨ (descOf s (newSs s big (codeOf s v).dpl)).dpl ≠ (codeOf s v).dpl
      ∨ (descOf s (newSs s big (codeOf s v).dpl)).s = false
      ∨ (descOf s (newSs s big (codeOf s v).dpl)).type.getLsbD 3 = true
      ∨ (descOf s (newSs s big (codeOf s v).dpl)).type.getLsbD 1 = false) :
    InnerFault s v soft push big 10#8 (selCode (newSs s big (codeOf s v).dpl)) (ssRead s v big)
  | absent (h : TssPassed s v soft big) (v86 : s.ctx.vm = true → (codeOf s v).dpl = 0#2)
    (notNull : selCode (newSs s big (codeOf s v).dpl) ≠ 0#16)
    (inTable : descInTable s.ctx (newSs s big (codeOf s v).dpl))
    (rpl : (newSs s big (codeOf s v).dpl).extractLsb' 0 2 = (codeOf s v).dpl)
    (dpl : (descOf s (newSs s big (codeOf s v).dpl)).dpl = (codeOf s v).dpl)
    (data : (descOf s (newSs s big (codeOf s v).dpl)).s = true
      ∧ (descOf s (newSs s big (codeOf s v).dpl)).type.getLsbD 3 = false
      ∧ (descOf s (newSs s big (codeOf s v).dpl)).type.getLsbD 1 = true)
    (absent : (descOf s (newSs s big (codeOf s v).dpl)).p = false) :
    InnerFault s v soft push big 12#8 (selCode (newSs s big (codeOf s v).dpl)) (ssRead s v big)
  | limit (h : NewStackPassed s v soft big) (beyond : (codeOf s v).limit.toNat < (gateOf s v).offset.toNat) :
    InnerFault s v soft push big 13#8 0#16 (ssRead s v big)
  | stack (j : Nat) (h : NewStackPassed s v soft big) (limit : (gateOf s v).offset.toNat ≤ (codeOf s v).limit.toNat)
    (bad : FirstBadInnerSlot s v push big j) :
    InnerFault s v soft push big 12#8 (selCode (newSs s big (codeOf s v).dpl))
      ((ssRead s v big).framed (innerAddr s big (codeOf s v).dpl (entrySize (gateOf s v))) (entrySize (gateOf s v))
        (.stack (codeOf s v).dpl) ((innerEntries s.ctx push 0#16).take j) 1)

/-- The internal errors of an inner delivery: TR holds no TSS (R333). -/
inductive InnerAbort (s : State) (v : Vector8) (soft : Bool) : AbortReason → Prop
  | trInvalid (h : InnerLevel s v soft) (bad : s.ctx.tr.valid = false) : InnerAbort s v soft .trInvalid
  | trType (h : InnerLevel s v soft) (trValid : s.ctx.tr.valid = true) (bad : ¬tss32 s ∧ ¬tss16 s) :
    InnerAbort s v soft .trType

/-- The state after the gate and the target code segment of a long-mode delivery were read (R355). -/
def longCodeRead (s : State) (v : Vector8) : State :=
  (longGateRead s v).accessed [.memR (descAddr s.ctx (longGateOf s v).selector) 8 .sys]

/-- The state in which the frame of a long-mode delivery is stored (R355). -/
def longStackRead (s : State) (v : Vector8) : State := (longCodeRead s v).accessed (longReads s v)

/-- The faults of a long-mode delivery after the gate (R362, R363, R366, R368). -/
inductive LongFault (s : State) (v : Vector8) (soft push : Bool) (ec : Half) : Vector8 → Half → State → Prop
  | null (h : LongGatePassed s v soft) (null : selCode (longGateOf s v).selector = 0#16) :
    LongFault s v soft push ec 13#8 0#16 (longGateRead s v)
  | table (h : LongGatePassed s v soft) (notNull : selCode (longGateOf s v).selector ≠ 0#16)
    (outside : ¬descInTable s.ctx (longGateOf s v).selector) :
    LongFault s v soft push ec 13#8 (selCode (longGateOf s v).selector) (longGateRead s v)
  | code (h : LongGatePassed s v soft) (notNull : selCode (longGateOf s v).selector ≠ 0#16)
    (inTable : descInTable s.ctx (longGateOf s v).selector)
    (bad : (longCodeOf s v).s = false ∨ (longCodeOf s v).type.getLsbD 3 = false ∨ s.ctx.cpl < (longCodeOf s v).dpl
      ∨ (longCodeOf s v).l = false ∨ (longCodeOf s v).db = true) :
    LongFault s v soft push ec 13#8 (selCode (longGateOf s v).selector) (longCodeRead s v)
  | absent (h : LongGatePassed s v soft) (notNull : selCode (longGateOf s v).selector ≠ 0#16)
    (inTable : descInTable s.ctx (longGateOf s v).selector)
    (code : (longCodeOf s v).s = true ∧ (longCodeOf s v).type.getLsbD 3 = true)
    (codeDpl : (longCodeOf s v).dpl ≤ s.ctx.cpl) (code64 : (longCodeOf s v).l = true ∧ (longCodeOf s v).db = false)
    (absent : (longCodeOf s v).p = false) :
    LongFault s v soft push ec 11#8 (selCode (longGateOf s v).selector) (longCodeRead s v)
  | tss (k : Nat) (h : LongCodePassed s v soft) (index : longTssIndex s v = some k) (trValid : s.ctx.tr.valid = true)
    (trType : tss32 s) (short : s.ctx.tr.cache.limit.toNat < 8 * k + 4 + 7) :
    LongFault s v soft push ec 10#8 (selCode s.ctx.tr.sel) (longCodeRead s v)
  | stack (j : Nat) (h : LongTssPassed s v soft) (inside : j < (longEntries s.ctx push ec).length)
    (first : ∀ k, 1 ≤ k → k ≤ j → canonical (longSlot s v k) = true) (bad : canonical (longSlot s v (j + 1)) = false) :
    LongFault s v soft push ec 12#8 0#16
      ((longStackRead s v).framed (longSlot s v) 8 (.stack (longLevel s v)) ((longEntries s.ctx push ec).take j) 1)
  | offset (h : LongTssPassed s v soft)
    (slots : ∀ k, 1 ≤ k → k ≤ (longEntries s.ctx push ec).length → canonical (longSlot s v k) = true)
    (bad : canonical (longGateOf s v).offset = false) :
    LongFault s v soft push ec 13#8 0#16
      ((longStackRead s v).framed (longSlot s v) 8 (.stack (longLevel s v)) (longEntries s.ctx push ec) 1)

/-- The internal errors of a long-mode delivery that takes its stack from the TSS: TR holds none (R363). -/
inductive LongAbort (s : State) (v : Vector8) (soft : Bool) : AbortReason → Prop
  | trInvalid (k : Nat) (h : LongCodePassed s v soft) (index : longTssIndex s v = some k)
    (bad : s.ctx.tr.valid = false) : LongAbort s v soft .trInvalid
  | trType (k : Nat) (h : LongCodePassed s v soft) (index : longTssIndex s v = some k) (trValid : s.ctx.tr.valid = true)
    (bad : ¬tss32 s) : LongAbort s v soft .trType

/-- An exception's state of entry: `RAISE 14` records the fault address first (R260). -/
def raiseEntry (s : State) (v : Vector8) (addr : Word) : State :=
  if v = 14#8 then s.setRegs { s.regs with cr2 := addr } else s

/-- The pair of the unresolved exception and `v` is compatible (R272). -/
def compatiblePair (last : ExcClass) (v : Vector8) : Prop :=
  last = .benign ∨ (last = .contributory ∧ classOf v ≠ .contributory) ∨ (last = .pageFault ∧ classOf v = .benign)

/-- The registers no delivery writes: everything but CR2, DR6 and DR7 in the control registers, the table registers, TPR
and the virtual TPR, the inputs, physical memory, the configuration and the requests. -/
structure SystemFrame (s t : State) : Prop where
  regs : t.regs = { s.regs with cr2 := t.regs.cr2, dr6 := t.regs.dr6, dr7 := t.regs.dr7 }
  tables : t.ctx.tr = s.ctx.tr ∧ t.ctx.ldtr = s.ctx.ldtr ∧ t.ctx.gdtr = s.ctx.gdtr ∧ t.ctx.idtr = s.ctx.idtr
  tpr : t.tpr = s.tpr ∧ t.vtpr = s.vtpr
  inp : t.inp = s.inp
  phys : t.phys = s.phys
  cfg : t.cfg = s.cfg
  queue : t.queue = s.queue

/-- The commands that write a register of the set `SystemFrame` guards. -/
def systemWrite : Instr → Bool
  | .wrcr0 _ | .wrcr2 _ | .wrcr3 _ | .wrcr4 _ | .wrcr8 _ => true
  | .wrdr0 _ | .wrdr1 _ | .wrdr2 _ | .wrdr3 _ | .wrdr4 _ | .wrdr5 _ | .wrdr6 _ | .wrdr7 _ => true
  | .wrefer _ | .wrxcr _ _ | .wrxss _ => true
  | _ => false

/-- The state a reset leaves, with its entry in the history (R410, R411; log entries 18 and 19). -/
def resetTo (s : State) (k : ResetKind) : State :=
  { s with
    regs := ControlRegs.reset
    ctx := Context.reset
    sched := Sched.reset
    exc := ExcState.reset
    tpr := 0#8
    inp :=
      { s.inp with inGuest := false, inSvmGuest := false, inSmm := false, gif := true, svmVIntrMasking := false }
    aborted := false
    hist := s.hist ++ [.reset k] }

/-- The state a shutdown leaves (R274). -/
def shutdownOf (s : State) : State :=
  { s with
    ctx := { s.ctx with rflags := s.ctx.rflags &&& ~~~0x200#64 }
    sched := { s.sched with activity := .shutdown }
    exc := { s.exc with inEvent := false, extBit := false, lastType := .benign }
    aborted := true
    hist := s.hist ++ [.shutdown] }

/-- None of the six reasons of R167. -/
structure Xcr0Legal (c : Config) (v : Word) : Prop where
  allowed : v &&& ~~~(xcr0Allow c) = 0#64
  x87 : v.getLsbD 0 = true
  avx : v.getLsbD 2 = true → v.getLsbD 1 = true
  mpx : v.getLsbD 3 = v.getLsbD 4
  avx512 : v.getLsbD 5 = v.getLsbD 6 ∧ v.getLsbD 6 = v.getLsbD 7
  needsAvx : v.getLsbD 5 = true → v.getLsbD 2 = true

/-- A `WREFER` is accepted (R160 to R162). -/
structure EferAccepts (s : State) (v : Word) : Prop where
  allowed : v &&& ~~~(eferAllow s.cfg) = 0#64
  lme : s.regs.cr0.getLsbD 31 = true → v.getLsbD 8 = s.regs.efer.getLsbD 8

/-- A read of control register `n` whose present value is `cur` (R153): the privilege check, then the layer's answer. -/
def ReadsCr (i : Instr) (n : CrNum) (cur : State → Word) (s : State) : Prop :=
  (s.ctx.cpl ≠ 0#2 → exec i s = raisedIn 13#8 0#16 s)
    ∧ (Supervisor s →
        (icptCr s n .read (cur s) 0#64 = .pass → exec i s = doneIn (.ok (cur s)) s)
        ∧ (∀ x b, icptCr s n .read (cur s) 0#64 = .handled x b → exec i s = doneIn (.ok x) s)
        ∧ ∀ e, icptCr s n .read (cur s) 0#64 = .exit e → exec i s = doneIn .vmexit (s.exited e))

/-- A write whose query the layer answered `a` does not reach its value test (R130, stage 3). -/
def LayerDecides (i : Instr) (a : RegAnswer) (s : State) : Prop :=
  (∀ e, a = .exit e → exec i s = doneIn .vmexit (s.exited e))
    ∧ ∀ x b, a = .handled x b → exec i s = doneIn (.ok 0#64) s

end Sys2Proof.Machine
end

