-- ==== Sys2Proof/Certificates/Slice0/Obligations.lean ====
section
/-! DEFINITION. The statements for the provers, one `def Obligations.<Name> : Prop` each. The terms they use (what a
delivery leaves, when a command is accepted) are defined in `Sys2Proof/Safety.lean`, from the rules and not from the
machine. `raisedIn v ec s` is what `raise #v(ec)` comes to in `s`, `doneIn a s` the outcome `a` in `s`. In all of them no
other agent stores to memory between two accesses of one command, which is the model's choice (log entry 33). -/

open Sys2Proof Sys2Proof.Machine

/-! ### Commands and their encodings -/

/-- R100, R101, R103: decoding an encoded command gives it back, for every instruction and every operand. -/
def Obligations.DecodeEncode : Prop := ∀ i : Instr, i.wf = true → decode (encode i) = .ok i

/-- R100, R103, R115: a command word that decodes is the word of the instruction it decodes to, so that no reserved bit is
dropped and no word outside the rows decodes. -/
def Obligations.DecodedWordIsEncodedWord : Prop :=
  ∀ (c : Command) (i : Instr), decode c = .ok i → i.wf = true ∧ (encode i).cmd = c.cmd

/-- R103 to R106: words written out from the fields of the encoding, one or more of each family; the port, the trap bits
and the error code are the low 16 bits of OPA. -/
def Obligations.DecodesSpecWords : Prop :=
  (∀ x y, decode ⟨0x01000000#32, x, y⟩ = .ok (.wrcr0 x)) ∧ (∀ x y, decode ⟨0x01080000#32, x, y⟩ = .ok (.wrcr8 x))
    ∧ (∀ x y, decode ⟨0x010D0000#32, x, y⟩ = .ok (.wrcr12_15Ud 1#2))
    ∧ (∀ x y, decode ⟨0x02030000#32, x, y⟩ = .ok .rdcr3) ∧ (∀ x y, decode ⟨0x02070000#32, x, y⟩ = .ok (.rdcr6_7Ud 1#1))
    ∧ (∀ x y, decode ⟨0x03070000#32, x, y⟩ = .ok (.wrdr7 x)) ∧ (∀ x y, decode ⟨0x04060000#32, x, y⟩ = .ok .rddr6)
    ∧ (∀ x y, decode ⟨0x030A0000#32, x, y⟩ = .ok (.wrdr8_15Ud 2#3))
    ∧ (∀ x y, decode ⟨0x05000000#32, x, y⟩ = .ok (.wrefer x)) ∧ (∀ x y, decode ⟨0x07030000#32, x, y⟩ = .ok (.wrxcr 3#8 x))
    ∧ (∀ y, decode ⟨0x10040200#32, 0xAAAA03F8#64, y⟩ = .ok (.chkio 4#8 false true 0x3F8#16))
    ∧ (∀ x y, decode ⟨0x20000000#32, x, y⟩ = .ok .boundary) ∧ (∀ x y, decode ⟨0x220A0100#32, x, y⟩ = .ok (.signal 10#4 true))
    ∧ (∀ y, decode ⟨0x24000000#32, 0xFFFFFFFFFFFF800D#64, y⟩ = .ok (.dbgtrap 0x800D#16))
    ∧ (∀ y, decode ⟨0x300E0000#32, 0x10006#64, y⟩ = .ok (.raise 14#8 6#16 y))
    ∧ (∀ y, decode ⟨0x300D0000#32, 0x10#64, y⟩ = .ok (.raise 13#8 0x10#16 0#64))
    ∧ (∀ y, decode ⟨0x31800C00#32, 5#64, y⟩ = .ok (.int 0x80#8 4#3 true 5#16))
    ∧ (∀ x y, decode ⟨0x41000000#32, x, y⟩ = .ok .specRsp)

/-- R8, R100, R115, R404: a step performs the oldest request. A command that decodes is executed, with only the request
itself gone from the queue; one that does not ends in `ABORT(bad_command)`. The queue, the idle step and the host actions
as requests are the model's own (log entries 1 and 16). -/
def Obligations.StepPerformsTheOldestRequest : Prop :=
  (∀ s c rest i, s.queue = .command c :: rest → decode c = .ok i → step s = exec i (s.setQueue rest))
    ∧ (∀ s c rest e, s.queue = .command c :: rest → decode c = .error e → s.aborted = false →
        step s = doneIn .abort ((s.setQueue rest).abortedBy .badCommand))
    ∧ (∀ s a rest, s.queue = .host a :: rest → step s = .next (hostStep a (s.setQueue rest)))
    ∧ (∀ s, s.queue = [] → step s = .next s)

/-- R102, R110: a response changes the response port alone; its kind, its vector, its zero bits and its `RES`. -/
def Obligations.ResponseEncoding : Prop :=
  ∀ (s : State) (a : Answer),
    s.respond a = { s with response := (s.respond a).response }
      ∧ (s.respond a).response.resp.extractLsb' 8 20 = 0#20
      ∧ (s.respond a).kind = (match a with
          | .ok _ => 0#4 | .deny => 1#4 | .delivered _ => 2#4 | .vmexit => 3#4 | .halted => 4#4 | .killed => 5#4
          | .reset => 6#4 | .shutdown => 7#4 | .smmEntry => 8#4 | .taskSw _ _ => 9#4 | .abort => 15#4)
      ∧ (s.respond a).respVector = (match a with | .delivered v => v | .taskSw v _ => v | _ => 0#8)
      ∧ (∀ r, a = .ok r → (s.respond a).response.res = r)
      ∧ (∀ v sel, a = .taskSw v sel → (s.respond a).response.res = sel.setWidth 64)
      ∧ ((∃ v, a = .delivered v) ∨ a = .deny ∨ a = .halted ∨ a = .killed ∨ a = .reset ∨ a = .shutdown ∨ a = .smmEntry →
          (s.respond a).response.res = 0#64)

/-- R30: the operating mode. -/
def Obligations.OperatingMode : Prop :=
  ∀ s : State,
    (s.regs.efer.getLsbD 10 = true → s.ctx.cs.cache.l = true → s.mode = .long64)
      ∧ (s.regs.efer.getLsbD 10 = true → s.ctx.cs.cache.l = false → s.mode = .compat)
      ∧ (s.regs.efer.getLsbD 10 = false → s.regs.cr0.getLsbD 0 = false → s.mode = .real)
      ∧ (s.regs.efer.getLsbD 10 = false → s.regs.cr0.getLsbD 0 = true → s.ctx.rflags.getLsbD 17 = true → s.mode = .v86)
      ∧ (s.regs.efer.getLsbD 10 = false → s.regs.cr0.getLsbD 0 = true → s.ctx.rflags.getLsbD 17 = false → s.mode = .prot)

/-! ### The whole machine -/

/-- R411: the reset value of every element of the block. -/
def Obligations.ResetValues : Prop :=
  (State.reset.regs = ⟨0x60000010#64, 0#64, 0#64, 0#64, 0#64, 1#64, 0#64, 0#64, 0#64, 0#64, 0#64, 0xFFFF0FF0#64, 0x400#64⟩)
    ∧ (let c := State.reset.ctx
      (c.rsp, c.ssp, c.rip, c.rflags, c.cpl) = (0#64, 0#64, 0xFFF0#64, 2#64, 0#2)
        ∧ (c.cs.sel, c.cs.valid, c.cs.cache.base, c.cs.cache.limit, c.cs.cache.type) = (0xF000#16, true, 0xFFFF0000#64, 0xFFFF#32, 0xB#4)
        ∧ (c.cs.cache.s, c.cs.cache.dpl, c.cs.cache.p, c.cs.cache.l, c.cs.cache.db, c.cs.cache.g) = (true, 0#2, true, false, false, false)
        ∧ (∀ r ∈ [c.ss, c.ds, c.es, c.fs, c.gs],
            (r.sel, r.valid, r.cache.base, r.cache.limit, r.cache.type) = (0#16, true, 0#64, 0xFFFF#32, 3#4)
              ∧ (r.cache.s, r.cache.dpl, r.cache.p, r.cache.l, r.cache.db, r.cache.g) = (true, 0#2, true, false, false, false))
        ∧ (c.tr.sel, c.tr.valid, c.tr.cache.base, c.tr.cache.limit, c.tr.cache.type, c.tr.cache.s, c.tr.cache.p)
          = (0#16, true, 0#64, 0xFFFF#32, 0xB#4, false, true)
        ∧ (c.ldtr.sel, c.ldtr.valid, c.ldtr.cache.base, c.ldtr.cache.limit, c.ldtr.cache.type, c.ldtr.cache.s, c.ldtr.cache.p)
          = (0#16, false, 0#64, 0xFFFF#32, 2#4, false, true)
        ∧ c.gdtr = ⟨0#64, 0xFFFF#16⟩ ∧ c.idtr = ⟨0#64, 0xFFFF#16⟩)
    ∧ State.reset.sched = ⟨0#16, 0#16, 0#16, 0#2, .active⟩
    ∧ State.reset.exc = ⟨0xFFF0#64, 0#64, 0#64, false, .benign, false, false⟩
    ∧ State.reset.tpr = 0#8 ∧ State.reset.hist = [] ∧ State.reset.aborted = false
    ∧ (let i := State.reset.inp
      (i.killRequest, i.inGuest, i.inSvmGuest, i.inSmm, i.gif, i.svmVIntrMasking) = (false, false, false, false, true, false))
    ∧ State.reset.mode = .real

/-- R413: every invariant holds at reset. -/
def Obligations.ResetKeepsInvariant : Prop := Machine.Inv State.reset

/-- R31, R413: every step keeps every invariant, from every state. -/
def Obligations.StepKeepsInvariant : Prop := ∀ s t, Machine.Inv s → step s = .next t → Machine.Inv t

/-- R8, R262, R405: with `CET_SUPPORTED = false`, the only value the spec defines, every step ends in a next state. The
bound of log entry 20 is never met. -/
def Obligations.StepAlwaysAnswers : Prop := ∀ s : State, s.cfg.cetSupported = false → ∃ t, step s = .next t

/-- R61: an internal error and the terminal shutdown set `aborted`; while it is 1 every command answers `ABORT` and changes
nothing but the response; only the platform's reset clears it (log entries 16 and 30). -/
def Obligations.AbortedAnswersAbort : Prop :=
  (∀ (i : Instr) (s : State), s.aborted = true → exec i s = doneIn .abort s)
    ∧ (∀ i s t, exec i s = .next t → t.kind = 15#4 ∨ t.kind = 7#4 → t.aborted = true)
    ∧ ∀ s t, step s = .next t → s.aborted = true → t.aborted = false → ∃ rest, s.queue = .host .platformReset :: rest

/-- R405, R57, R58, R56: between commands no delivery is in progress, unless the last response was `TASKSW` or `ABORT`;
after `VMEXIT` too, because the model applies the resets of R212 (log entry 15). -/
def Obligations.NoDeliveryBetweenCommands : Prop :=
  ∀ i s t, s.exc.Idle → exec i s = .next t → t.kind ≠ 9#4 → t.kind ≠ 15#4 → t.exc.Idle

/-- R130, R40 to R46, R25: a command at CPL other than 0, and any command that is no write of a system register, leaves
every register that `SystemFrame` lists as it was, whatever it raises and delivers, unless it resets the machine. -/
def Obligations.SystemRegistersAreGuarded : Prop :=
  ∀ i s t, exec i s = .next t → t.kind ≠ 6#4 → s.ctx.cpl ≠ 0#2 ∨ systemWrite i = false → SystemFrame s t

/-- R163: EFER.LMA changes only by a reset or by an accepted CR0 write that changes CR0.PG: set with PG where EFER.LME is
1 (R134), cleared with it (R135). -/
def Obligations.LmaChangesOnlyWithPaging : Prop :=
  ∀ i s t, exec i s = .next t → t.regs.lma ≠ s.regs.lma →
    ((∃ v, i = .wrcr0 v) ∧ t.kind = 0#4 ∧ s.regs.cr0.getLsbD 31 = s.regs.lma ∧ t.regs.cr0.getLsbD 31 = t.regs.lma
        ∧ (t.regs.lma = true → s.regs.efer.getLsbD 8 = true))
      ∨ t.kind = 6#4

/-- R60, R88: the history only grows, and a flush request comes from a write of CR0, CR3 or CR4 alone. -/
def Obligations.HistoryOnlyGrows : Prop :=
  ∀ i s t, exec i s = .next t →
    ∃ new, t.hist = s.hist ++ new
      ∧ ∀ f, .tlbFlush f ∈ new → (∃ v, i = .wrcr0 v) ∨ (∃ v, i = .wrcr3 v) ∨ ∃ v, i = .wrcr4 v

/-- R70, R73, R110: a command that ends in `OK`, `DENY`, `HALTED`, `KILLED` or `SMM_ENTRY` leaves every byte of both
memories as it was, and the context too unless it is `ACTIVITY`. That no other agent stores in between is the model's choice
(log entry 33). -/
def Obligations.OnlyDeliveriesStore : Prop :=
  ∀ i s t, exec i s = .next t → t.kind = 0#4 ∨ t.kind = 1#4 ∨ t.kind = 4#4 ∨ t.kind = 5#4 ∨ t.kind = 8#4 →
    (∀ a, t.mem.get a = s.mem.get a) ∧ (∀ a, t.phys.get a = s.phys.get a) ∧ ((∀ c, i ≠ .activity c) → t.ctx = s.ctx)

/-! ### Control registers -/

/-- R131, R134 to R138: an accepted CR0 write, with the transitions of paging, the PDPTEs, the flush and the mode change. -/
def Obligations.WrCr0Accepts : Prop :=
  ∀ s v, Supervisor s → icptCr s .cr0 .write s.regs.cr0 (cr0Value s.cfg.cpuLevel v) = .pass → Cr0Accepts s v →
    exec (.wrcr0 v) s = doneIn (.ok 0#64) (cr0Accepted s v)

/-- R130, R132, R133, R134, R135: a CR0 write that is rejected before the PDPTEs raises #GP(0) and writes nothing. -/
def Obligations.WrCr0Rejects : Prop :=
  (∀ s v, s.ctx.cpl ≠ 0#2 → exec (.wrcr0 v) s = raisedIn 13#8 0#16 s)
    ∧ ∀ s v, Supervisor s → icptCr s .cr0 .write s.regs.cr0 (cr0Value s.cfg.cpuLevel v) = .pass →
        ¬Cr0Legal s v ∨ ¬LongEntryOk s v ∨ ¬LongExitOk s v → exec (.wrcr0 v) s = raisedIn 13#8 0#16 s

/-- R155: the SVM CR0-write intercepts fire in an SVM guest only. Where both fire the plain one gives the reason, which is
the model's choice (log entry 9); the selective one ignores TS and MP. Where neither fires the layer may still handle the
write (log entry 31); where it does not, the write goes on. -/
def Obligations.SvmCr0Intercept : Prop :=
  ∀ s v, Supervisor s → s.cfg.nested = .svm → s.inp.inGuest = true →
    let new := cr0Value s.cfg.cpuLevel v
    let changed := ∃ i, i ≠ 1 ∧ i ≠ 3 ∧ s.regs.cr0.getLsbD i ≠ new.getLsbD i
    (s.inp.inSvmGuest = true → s.inp.icpt.cr0Write = true →
        exec (.wrcr0 v) s = doneIn .vmexit (s.exited ⟨.cr0Write, s.inp.icpt.cr0Qual⟩))
      ∧ (s.inp.inSvmGuest = true → s.inp.icpt.cr0Write = false → s.inp.icpt.cr0SelWrite = true → changed →
          exec (.wrcr0 v) s = doneIn .vmexit (s.exited ⟨.cr0SelectiveWrite, s.inp.icpt.cr0Qual⟩))
      ∧ ((s.inp.inSvmGuest = true → s.inp.icpt.cr0Write = false ∧ (s.inp.icpt.cr0SelWrite = true → ¬changed)) →
          let a := icptCr s .cr0 .write s.regs.cr0 new
          (∀ x b, a = .handled x b → exec (.wrcr0 v) s = doneIn (.ok 0#64) s)
            ∧ ((∀ x b, a ≠ .handled x b) → Cr0Accepts s v → exec (.wrcr0 v) s = doneIn (.ok 0#64) (cr0Accepted s v)))

/-- R139: `WRCR2`, whole. -/
def Obligations.WrCr2 : Prop :=
  (∀ s v, s.ctx.cpl ≠ 0#2 → exec (.wrcr2 v) s = raisedIn 13#8 0#16 s)
    ∧ (∀ s v, Supervisor s → LayerDecides (.wrcr2 v) (icptCr s .cr2 .write s.regs.cr2 v) s)
    ∧ ∀ s v, Supervisor s → icptCr s .cr2 .write s.regs.cr2 v = .pass →
        exec (.wrcr2 v) s = doneIn (.ok 0#64) (s.setRegs { s.regs with cr2 := v })

/-- R140, R141, R143: an accepted CR3 write. -/
def Obligations.WrCr3Accepts : Prop :=
  ∀ s v, Supervisor s → icptCr s .cr3 .write s.regs.cr3 v = .pass → Cr3Accepts s v →
    exec (.wrcr3 v) s = doneIn (.ok 0#64)
      ((s.setRegs { s.regs with cr3 := cr3Stored s v }).logged
        ((if cr3Walks s then pdptesLoaded s (cr3Stored s v) else []) ++ cr3Flush s v))

/-- R145, R147, R148, R149: an accepted CR4 write. -/
def Obligations.WrCr4Accepts : Prop :=
  ∀ s v, Supervisor s → icptCr s .cr4 .write s.regs.cr4 v = .pass → Cr4Legal s v →
    (cr4Walks s v = true → PdptesOk s s.regs.cr3) →
    exec (.wrcr4 v) s = doneIn (.ok 0#64)
      ((s.setRegs { s.regs with cr4 := v }).logged
        ((if cr4Walks s v then pdptesLoaded s s.regs.cr3 else [])
          ++ (if cr4Changes s v then [.tlbFlush .all] else []) ++ [.modeChange s.mode]))

/-- R130, R141, R147: a CR3 or CR4 write that is rejected before the PDPTEs: #GP(0), or for CR3 outside long mode a bad
command. -/
def Obligations.WrCr3AndWrCr4Reject : Prop :=
  (∀ s v, s.ctx.cpl ≠ 0#2 → exec (.wrcr3 v) s = raisedIn 13#8 0#16 s ∧ exec (.wrcr4 v) s = raisedIn 13#8 0#16 s)
    ∧ (∀ s v, Supervisor s → icptCr s .cr3 .write s.regs.cr3 v = .pass → s.regs.efer.getLsbD 10 = true →
        2 ^ s.cfg.phyAddrWidth ≤ (cr3Stored s v).toNat → exec (.wrcr3 v) s = raisedIn 13#8 0#16 s)
    ∧ (∀ s v, Supervisor s → icptCr s .cr3 .write s.regs.cr3 v = .pass → s.regs.efer.getLsbD 10 = false →
        2 ^ 32 ≤ (cr3Stored s v).toNat → exec (.wrcr3 v) s = doneIn .abort (s.abortedBy .badCommand))
    ∧ ∀ s v, Supervisor s → icptCr s .cr4 .write s.regs.cr4 v = .pass → ¬Cr4Legal s v →
        exec (.wrcr4 v) s = raisedIn 13#8 0#16 s

/-- R142, R136, R140, R148: the first bad PDPTE rejects the write with #GP(0), after the reads up to it; no register is
written. -/
def Obligations.BadPdpteRejects : Prop :=
  (∀ s v n, Supervisor s → icptCr s .cr0 .write s.regs.cr0 (cr0Value s.cfg.cpuLevel v) = .pass → Cr0Legal s v →
      LongEntryOk s v → LongExitOk s v → cr0Walks s v = true → FirstBadPdpte s s.regs.cr3 n →
      exec (.wrcr0 v) s = raisedIn 13#8 0#16 (s.logged (pdpteReads s.regs.cr3 (n + 1))))
    ∧ (∀ s v n, Supervisor s → icptCr s .cr3 .write s.regs.cr3 v = .pass → (cr3Stored s v).toNat < 2 ^ 32 →
        cr3Walks s = true → FirstBadPdpte s (cr3Stored s v) n →
        exec (.wrcr3 v) s = raisedIn 13#8 0#16 (s.logged (pdpteReads (cr3Stored s v) (n + 1))))
    ∧ ∀ s v n, Supervisor s → icptCr s .cr4 .write s.regs.cr4 v = .pass → Cr4Legal s v → cr4Walks s v = true →
        FirstBadPdpte s s.regs.cr3 n →
        exec (.wrcr4 v) s = raisedIn 13#8 0#16 (s.logged (pdpteReads s.regs.cr3 (n + 1)))

/-- R150: `WRCR8`, whole. A layer that handles the write may set `pending_event[VMX_VTPR]` (log entry 24), under
`NESTED = Vmx` only (R232). -/
def Obligations.WrCr8 : Prop :=
  (∀ s v, s.cfg.has .x86_64 = false → exec (.wrcr8 v) s = raisedIn 6#8 0#16 s)
    ∧ (∀ s v, s.cfg.has .x86_64 = true → s.ctx.cpl ≠ 0#2 → exec (.wrcr8 v) s = raisedIn 13#8 0#16 s)
    ∧ ∀ s v, s.cfg.has .x86_64 = true → Supervisor s →
        let a := icptCr s .cr8 .write ((s.tpr.extractLsb' 4 4).setWidth 64) v
        (∀ e, a = .exit e → exec (.wrcr8 v) s = doneIn .vmexit (s.exited e))
          ∧ (∀ x b, a = .handled x b → exec (.wrcr8 v) s = doneIn (.ok 0#64)
              (if b = true ∧ s.cfg.nested = .vmx then s.setSched { s.sched with pending := s.sched.pending ||| 0x1000#16 }
                else s))
          ∧ (a = .pass → 16 ≤ v.toNat → exec (.wrcr8 v) s = raisedIn 13#8 0#16 s)
          ∧ (a = .pass → v.toNat < 16 → (s.inp.inSvmGuest = true ∧ s.inp.svmVIntrMasking = true) →
              exec (.wrcr8 v) s = doneIn (.ok 0#64)
                ((s.setVTpr (BitVec.ofNat 8 (16 * v.toNat))).logged [.setVTpr (BitVec.ofNat 8 (16 * v.toNat))]))
          ∧ (a = .pass → v.toNat < 16 → ¬(s.inp.inSvmGuest = true ∧ s.inp.svmVIntrMasking = true) →
              exec (.wrcr8 v) s = doneIn (.ok 0#64)
                ((s.setTpr (BitVec.ofNat 8 (16 * v.toNat))).logged [.setTpr (BitVec.ofNat 8 (16 * v.toNat))]))

/-- R153: `RDCRn`, whole: no state changes on the `OK` paths. -/
def Obligations.RdCr : Prop :=
  (∀ s, ReadsCr .rdcr0 .cr0 (fun s => s.regs.cr0) s) ∧ (∀ s, ReadsCr .rdcr2 .cr2 (fun s => s.regs.cr2) s)
    ∧ (∀ s, ReadsCr .rdcr3 .cr3 (fun s => s.regs.cr3) s) ∧ (∀ s, ReadsCr .rdcr4 .cr4 (fun s => s.regs.cr4) s)
    ∧ (∀ s, s.cfg.has .x86_64 = true →
        ReadsCr .rdcr8 .cr8 (fun s =>
          ((if s.inp.inSvmGuest = true ∧ s.inp.svmVIntrMasking = true then s.vtpr else s.tpr).extractLsb' 4 4).setWidth 64) s)
    ∧ (∀ s, s.cfg.has .x86_64 = false → exec .rdcr8 s = raisedIn 6#8 0#16 s)
    ∧ (∀ s, exec .rdcr1Ud s = raisedIn 6#8 0#16 s) ∧ (∀ s, exec .rdcr5Ud s = raisedIn 6#8 0#16 s)
    ∧ (∀ s a, exec (.rdcr6_7Ud a) s = raisedIn 6#8 0#16 s) ∧ (∀ s, exec .rdcr9Ud s = raisedIn 6#8 0#16 s)
    ∧ (∀ s a, exec (.rdcr10_11Ud a) s = raisedIn 6#8 0#16 s) ∧ ∀ s a, exec (.rdcr12_15Ud a) s = raisedIn 6#8 0#16 s

/-- R104, R105, R262: a register number that selects nothing raises #UD(0) before any other check, and where that exception
is delivered (`ExceptionTo`) the command answers `DELIVERED(6)` in the handler. -/
def Obligations.UndefinedRegisterRows : Prop :=
  ∀ i s, undefinedRow i = true →
    exec i s = raisedIn 6#8 0#16 s
      ∧ ∀ t, s.aborted = false → ExceptionTo s 6#8 0#16 t → exec i s = doneIn (.delivered 6#8) t

/-- R154: the testable properties of the CR0 and CR4 validators. "accepted" is `OK` with the query passed. -/
def Obligations.CrProperties : Prop :=
  (∀ s v t, s.aborted = false → icptCr s .cr0 .write s.regs.cr0 (cr0Value s.cfg.cpuLevel v) = .pass →
      exec (.wrcr0 v) s = .next t → t.kind = 0#4 →
      t.regs.cr0 = cr0Value s.cfg.cpuLevel v
        ∧ (s.inp.inSvmGuest = false → ¬(v.getLsbD 31 = true ∧ v.getLsbD 0 = false))
        ∧ (4 ≤ s.cfg.cpuLevel.toNat → ¬(v.getLsbD 29 = true ∧ v.getLsbD 30 = false))
        ∧ (cr0Value s.cfg.cpuLevel v = s.regs.cr0 → ∃ new, t.hist = s.hist ++ new ∧ ∀ f, .tlbFlush f ∉ new))
    ∧ (∀ s v t, s.aborted = false → icptCr s .cr4 .write s.regs.cr4 v = .pass → exec (.wrcr4 v) s = .next t →
        t.kind = 0#4 →
        t.regs.cr4 = v ∧ (s.regs.efer.getLsbD 10 = true → v.getLsbD 5 = true)
          ∧ (v = s.regs.cr4 → ∃ new, t.hist = s.hist ++ new ∧ ∀ f, .tlbFlush f ∉ new)
          ∧ (v.getLsbD 7 ≠ s.regs.cr4.getLsbD 7 → ∃ new, t.hist = s.hist ++ new ∧ .tlbFlush .all ∈ new))
    ∧ ∀ s v, Supervisor s → icptCr s .cr0 .write s.regs.cr0 (cr0Value s.cfg.cpuLevel v) = .pass →
        s.inp.inSvmGuest = false → v.getLsbD 31 = true → v.getLsbD 0 = false →
        exec (.wrcr0 v) s = raisedIn 13#8 0#16 s
          ∧ ∀ t, exec (.wrcr0 v) s = .next t → t.kind ≠ 6#4 → t.regs.cr0 = s.regs.cr0

/-- R130, R206, R207, R208: a write whose query is answered `Exit` or `Handled` ends there, before the value is tested, and
so does a read or write of a debug register whose query is answered `Exit`. -/
def Obligations.LayerDecidesBeforeTheValue : Prop :=
  ∀ s v, Supervisor s →
    LayerDecides (.wrcr0 v) (icptCr s .cr0 .write s.regs.cr0 (cr0Value s.cfg.cpuLevel v)) s
      ∧ LayerDecides (.wrcr3 v) (icptCr s .cr3 .write s.regs.cr3 v) s
      ∧ LayerDecides (.wrcr4 v) (icptCr s .cr4 .write s.regs.cr4 v) s
      ∧ LayerDecides (.wrefer v) (icptReg s .efer .write s.regs.efer v) s
      ∧ LayerDecides (.wrxss v) (icptReg s .xss .write s.regs.xss v) s
      ∧ (s.regs.cr4.getLsbD 18 = true → ∀ i, LayerDecides (.wrxcr i v) (icptReg s .xcr0 .write s.regs.xcr0 v) s)
      ∧ (s.regs.dr7.getLsbD 13 = false → ∀ i n dir e, drQuery (s.regs.cr4.getLsbD 3) i = some (n, dir) →
          plainAnswer s (.dr n dir) = some e → exec i s = doneIn .vmexit (s.exited e))

/-! ### Debug registers -/

/-- R174 to R177: writes of the breakpoint addresses, canonical in 64-bit mode, of DR6 and of DR7, and of their aliases
with CR4.DE clear. That DR6 and DR7 take bits 12, 14 and 15 up to level 4, as R176 and R177 have it, where R28 has zeros, is
the model's reading (log entry 34). -/
def Obligations.WrDr : Prop :=
  (∀ s v, (s.mode = .long64 → v = (v.setWidth 48).signExtend 64) →
      (DrPasses s .dr0 .write → exec (.wrdr0 v) s = doneIn (.ok 0#64) (s.setRegs { s.regs with dr0 := v }))
        ∧ (DrPasses s .dr1 .write → exec (.wrdr1 v) s = doneIn (.ok 0#64) (s.setRegs { s.regs with dr1 := v }))
        ∧ (DrPasses s .dr2 .write → exec (.wrdr2 v) s = doneIn (.ok 0#64) (s.setRegs { s.regs with dr2 := v }))
        ∧ (DrPasses s .dr3 .write → exec (.wrdr3 v) s = doneIn (.ok 0#64) (s.setRegs { s.regs with dr3 := v })))
    ∧ ∀ s v, v.toNat < 2 ^ 32 →
        let six := s.setRegs { s.regs with dr6 := (s.regs.dr6 &&& 0xFFFF0FF0#64) ||| (v &&& dr6Writable s.cfg) }
        let seven := s.setRegs { s.regs with dr7 := (v &&& dr7Writable s.cfg) ||| 0x400#64 }
        (DrPasses s .dr6 .write → exec (.wrdr6 v) s = doneIn (.ok 0#64) six)
          ∧ (DrPasses s .dr7 .write → exec (.wrdr7 v) s = doneIn (.ok 0#64) seven)
          ∧ (DrPasses s .dr6 .write → s.regs.cr4.getLsbD 3 = false → exec (.wrdr4 v) s = doneIn (.ok 0#64) six)
          ∧ (DrPasses s .dr7 .write → s.regs.cr4.getLsbD 3 = false → exec (.wrdr5 v) s = doneIn (.ok 0#64) seven)

/-- R178, R175: reads of the debug registers change nothing. -/
def Obligations.RdDr : Prop :=
  ∀ s, (DrPasses s .dr0 .read → exec .rddr0 s = doneIn (.ok s.regs.dr0) s)
    ∧ (DrPasses s .dr1 .read → exec .rddr1 s = doneIn (.ok s.regs.dr1) s)
    ∧ (DrPasses s .dr2 .read → exec .rddr2 s = doneIn (.ok s.regs.dr2) s)
    ∧ (DrPasses s .dr3 .read → exec .rddr3 s = doneIn (.ok s.regs.dr3) s)
    ∧ (DrPasses s .dr6 .read → exec .rddr6 s = doneIn (.ok s.regs.dr6) s)
    ∧ (DrPasses s .dr7 .read → exec .rddr7 s = doneIn (.ok s.regs.dr7) s)
    ∧ (DrPasses s .dr6 .read → s.regs.cr4.getLsbD 3 = false → exec .rddr4 s = doneIn (.ok s.regs.dr6) s)
    ∧ (DrPasses s .dr7 .read → s.regs.cr4.getLsbD 3 = false → exec .rddr5 s = doneIn (.ok s.regs.dr7) s)

/-- R179, R270: with DR7.GD set, an access that passed index resolution raises #DB before the privilege check, with BD in
`debug_trap`; where it is delivered, BD is in DR6 and GD is clear. -/
def Obligations.GeneralDetect : Prop :=
  ∀ i s, s.aborted = false → drAccessRow (s.regs.cr4.getLsbD 3) i = true → s.regs.dr7.getLsbD 13 = true →
    let s' := s.setSched { s.sched with debugTrap := s.sched.debugTrap ||| 0x2000#16 }
    exec i s = raisedIn 1#8 0#16 s'
      ∧ ∀ t, ExceptionTo s' 1#8 0#16 t →
          exec i s = doneIn (.delivered 1#8) t ∧ t.regs.dr6.getLsbD 13 = true ∧ t.regs.dr7.getLsbD 13 = false

/-- R173, R174, R175: the accesses that are rejected: an alias with CR4.DE set, CPL other than 0, a breakpoint address that
is not canonical in 64-bit mode, an upper half of DR6 or DR7 that is not 0, under either of their numbers. -/
def Obligations.DrRejects : Prop :=
  (∀ i s, drAccessRow (s.regs.cr4.getLsbD 3) i = false → drAccessRow false i = true → exec i s = raisedIn 6#8 0#16 s)
    ∧ (∀ i s, drAccessRow (s.regs.cr4.getLsbD 3) i = true → s.regs.dr7.getLsbD 13 = false → s.ctx.cpl ≠ 0#2 →
        exec i s = raisedIn 13#8 0#16 s)
    ∧ (∀ s v, s.mode = .long64 → v ≠ (v.setWidth 48).signExtend 64 →
        (DrPasses s .dr0 .write → exec (.wrdr0 v) s = raisedIn 13#8 0#16 s)
          ∧ (DrPasses s .dr1 .write → exec (.wrdr1 v) s = raisedIn 13#8 0#16 s)
          ∧ (DrPasses s .dr2 .write → exec (.wrdr2 v) s = raisedIn 13#8 0#16 s)
          ∧ (DrPasses s .dr3 .write → exec (.wrdr3 v) s = raisedIn 13#8 0#16 s))
    ∧ ∀ s v, 2 ^ 32 ≤ v.toNat →
        (DrPasses s .dr6 .write → exec (.wrdr6 v) s = raisedIn 13#8 0#16 s)
          ∧ (DrPasses s .dr7 .write → exec (.wrdr7 v) s = raisedIn 13#8 0#16 s)
          ∧ (DrPasses s .dr6 .write → s.regs.cr4.getLsbD 3 = false → exec (.wrdr4 v) s = raisedIn 13#8 0#16 s)
          ∧ (DrPasses s .dr7 .write → s.regs.cr4.getLsbD 3 = false → exec (.wrdr5 v) s = raisedIn 13#8 0#16 s)

/-! ### EFER, XCR0, IA32_XSS -/

/-- R160, R162, R163: a `WREFER` that passes the layer. LMA keeps its old value. -/
def Obligations.WrEfer : Prop :=
  (∀ s v, s.ctx.cpl ≠ 0#2 → exec (.wrefer v) s = raisedIn 13#8 0#16 s)
    ∧ ∀ s v, Supervisor s → icptReg s .efer .write s.regs.efer v = .pass →
        (EferAccepts s v → exec (.wrefer v) s = doneIn (.ok 0#64)
            (s.setRegs { s.regs with efer := (v &&& ~~~0x400#64) ||| (s.regs.efer &&& 0x400#64) }))
          ∧ (¬EferAccepts s v → exec (.wrefer v) s = raisedIn 13#8 0#16 s)

/-- R165, R167, R169: `WRXCR` and `WRXSS` where they pass the layer. -/
def Obligations.WrXcrAndXss : Prop :=
  (∀ s i v, s.regs.cr4.getLsbD 18 = false → exec (.wrxcr i v) s = raisedIn 6#8 0#16 s)
    ∧ (∀ s i v, s.regs.cr4.getLsbD 18 = true → s.ctx.cpl ≠ 0#2 → exec (.wrxcr i v) s = raisedIn 13#8 0#16 s)
    ∧ (∀ s i v, s.regs.cr4.getLsbD 18 = true → Supervisor s → icptReg s .xcr0 .write s.regs.xcr0 v = .pass →
        (i = 0#8 → Xcr0Legal s.cfg v → exec (.wrxcr i v) s = doneIn (.ok 0#64)
            ((s.setRegs { s.regs with xcr0 := v }).logged [.modeChange s.mode]))
          ∧ (i ≠ 0#8 ∨ ¬Xcr0Legal s.cfg v → exec (.wrxcr i v) s = raisedIn 13#8 0#16 s))
    ∧ (∀ s v, s.ctx.cpl ≠ 0#2 → exec (.wrxss v) s = raisedIn 13#8 0#16 s)
    ∧ ∀ s v, Supervisor s → icptReg s .xss .write s.regs.xss v = .pass →
        (s.cfg.has .xsaves = true → v &&& ~~~(xssAllow s.cfg) = 0#64 →
            exec (.wrxss v) s = doneIn (.ok 0#64) (s.setRegs { s.regs with xss := v }))
          ∧ (s.cfg.has .xsaves = false ∨ v &&& ~~~(xssAllow s.cfg) ≠ 0#64 → exec (.wrxss v) s = raisedIn 13#8 0#16 s)

/-- R164, R168, R171: `RDEFER`, `RDXCR` and `RDXSS`, whole. -/
def Obligations.MsrReads : Prop :=
  (∀ s, s.ctx.cpl ≠ 0#2 → exec .rdefer s = raisedIn 13#8 0#16 s ∧ exec .rdxss s = raisedIn 13#8 0#16 s)
    ∧ (∀ s, Supervisor s →
        (icptReg s .efer .read s.regs.efer 0#64 = .pass → exec .rdefer s = doneIn (.ok s.regs.efer) s)
          ∧ (∀ x b, icptReg s .efer .read s.regs.efer 0#64 = .handled x b → exec .rdefer s = doneIn (.ok x) s)
          ∧ ∀ e, icptReg s .efer .read s.regs.efer 0#64 = .exit e → exec .rdefer s = doneIn .vmexit (s.exited e))
    ∧ (∀ s, Supervisor s → s.cfg.has .xsaves = true →
        (icptReg s .xss .read s.regs.xss 0#64 = .pass → exec .rdxss s = doneIn (.ok s.regs.xss) s)
          ∧ (∀ x b, icptReg s .xss .read s.regs.xss 0#64 = .handled x b → exec .rdxss s = doneIn (.ok x) s)
          ∧ ∀ e, icptReg s .xss .read s.regs.xss 0#64 = .exit e → exec .rdxss s = doneIn .vmexit (s.exited e))
    ∧ (∀ s, Supervisor s → s.cfg.has .xsaves = false → exec .rdxss s = raisedIn 13#8 0#16 s)
    ∧ (∀ s i, s.regs.cr4.getLsbD 18 = false → exec (.rdxcr i) s = raisedIn 6#8 0#16 s)
    ∧ (∀ s i, s.regs.cr4.getLsbD 18 = true → i ≠ 0#8 → exec (.rdxcr i) s = raisedIn 13#8 0#16 s)
    ∧ ∀ s, s.aborted = false → s.regs.cr4.getLsbD 18 = true → exec (.rdxcr 0#8) s = doneIn (.ok s.regs.xcr0) s

/-! ### I/O permission -/

/-- R190 to R196, R199, R200: a granted check asks the layer and adds the I/O breakpoints to `debug_trap`. -/
def Obligations.ChkioGrants : Prop :=
  ∀ s width out rep port reads, s.aborted = false → width = 1#8 ∨ width = 2#8 ∨ width = 4#8 →
    IoGranted s width port reads →
    (plainAnswer s (.io port width out rep) = none →
        exec (.chkio width out rep port) s = doneIn (.ok 0#64)
          ((s.accessed reads).setSched { s.sched with debugTrap := s.sched.debugTrap ||| ioHits s.regs port width }))
      ∧ ∀ e, plainAnswer s (.io port width out rep) = some e →
          exec (.chkio width out rep port) s = doneIn .vmexit ((s.accessed reads).exited e)

/-- R190, R191, R193, R195, R196, R115, R76: a check that is denied, one that faults on its first or on its second read,
and one that is a bad command. That a read that faults is in the history too is the model's reading (log entry 11). -/
def Obligations.ChkioDenies : Prop :=
  (∀ s width out rep port, s.aborted = false → width ≠ 1#8 ∧ width ≠ 2#8 ∧ width ≠ 4#8 →
      exec (.chkio width out rep port) s = doneIn .abort (s.abortedBy .badCommand))
  ∧ ∀ s width out rep port, s.aborted = false → width = 1#8 ∨ width = 2#8 ∨ width = 4#8 → ioChecked s →
    (¬ioTss s → exec (.chkio width out rep port) s = doneIn .deny s)
      ∧ (ioTss s → s.portOk → s.ctx.tr.cache.limit.toNat ≤ ioOff s port →
          exec (.chkio width out rep port) s = doneIn .deny (s.accessed [.memR (ioMapAddr s) 2 .sys]))
      ∧ (ioTss s → s.portOk → ioOff s port < s.ctx.tr.cache.limit.toNat → (∃ j, j < width.toNat ∧ ioBit s port j = true) →
          exec (.chkio width out rep port) s = doneIn .deny (s.accessed (ioReads s port)))
      ∧ (∀ ec rest, ioTss s → s.port = some ec :: rest →
          exec (.chkio width out rep port) s
            = exec (.raise 14#8 ec (ioMapAddr s)) (s.accessed [.memR (ioMapAddr s) 2 .sys]))
      ∧ ∀ ec rest, ioTss s → s.port = none :: some ec :: rest → ioOff s port < s.ctx.tr.cache.limit.toNat →
          exec (.chkio width out rep port) s
            = exec (.raise 14#8 ec (ioWordAddr s port)) (s.accessed (ioReads s port))

/-! ### The feeders of the scheduler, and the snapshots -/

/-- R245, R246: `SIGNAL` and `EVMASK`, whole. -/
def Obligations.SignalAndMask : Prop :=
  (∀ s e, s.aborted = false → e ≠ 3#4 →
      exec (.signal e true) s = doneIn (.ok 0#64)
          (s.setSched { s.sched with pending := s.sched.pending ||| (1#16 <<< e.toNat) })
        ∧ exec (.signal e false) s = doneIn (.ok 0#64)
          (s.setSched { s.sched with pending := s.sched.pending &&& ~~~(1#16 <<< e.toNat) }))
    ∧ (∀ s level, s.aborted = false → exec (.signal 3#4 level) s = doneIn .abort (s.abortedBy .badCommand))
    ∧ ∀ s e, s.aborted = false →
        exec (.evmask e true) s = doneIn (.ok 0#64) (s.setSched { s.sched with mask := s.sched.mask ||| (1#16 <<< e.toNat) })
          ∧ exec (.evmask e false) s = doneIn (.ok 0#64)
            (s.setSched { s.sched with mask := s.sched.mask &&& ~~~(1#16 <<< e.toNat) })

/-- R247, R248, R249: `INHIBIT`, `DBGTRAP` and `ACTIVITY`, whole. -/
def Obligations.InhibitTrapActivity : Prop :=
  ∀ s, s.aborted = false →
    (∀ m, exec (.inhibit m) s = doneIn (.ok 0#64) (s.setSched { s.sched with inhibit := s.sched.inhibit ||| m }))
      ∧ (∀ b, b &&& 0x1FF0#16 = 0#16 → exec (.dbgtrap b) s = doneIn (.ok 0#64)
          (s.setSched { s.sched with debugTrap := s.sched.debugTrap ||| b }))
      ∧ (∀ b, b &&& 0x1FF0#16 ≠ 0#16 → exec (.dbgtrap b) s = doneIn .abort (s.abortedBy .badCommand))
      ∧ (∀ p ∈ [(0#3, Activity.active), (1#3, .hlt), (3#3, .waitForSipi), (4#3, .mwait), (5#3, .mwaitIf)],
          exec (.activity p.1) s = doneIn (.ok 0#64) (s.setSched { s.sched with activity := p.2 }))
      ∧ exec (.activity 2#3) s = doneIn (.ok 0#64)
          ((s.setSched { s.sched with activity := .shutdown }).setCtx
            { s.ctx with rflags := s.ctx.rflags &&& ~~~0x200#64 })
      ∧ (∀ a, a = 6#3 ∨ a = 7#3 → exec (.activity a) s = doneIn .abort (s.abortedBy .badCommand))

/-- R276, R277, R278: the snapshot commands. -/
def Obligations.SnapshotCommands : Prop :=
  ∀ s, s.aborted = false →
    exec .instrStart s = doneIn (.ok 0#64) (s.setExc { s.exc with prevRip := s.ctx.rip, specRsp := false })
      ∧ exec .specRsp s = doneIn (.ok 0#64)
          (s.setExc { s.exc with prevRsp := s.ctx.rsp, prevSsp := s.ctx.ssp, specRsp := true })
      ∧ exec .commitRsp s = doneIn (.ok 0#64) (s.setExc { s.exc with specRsp := false })

/-! ### The per-boundary pass -/

/-- R224, R229, R237, R238, R251, R252: a pass in which no step acts. It loses an inhibited debug trap, arms the single
step and ends the inhibition; every waiting event stays waiting. -/
def Obligations.QuietPass : Prop :=
  ∀ s, PastStep4 s → s.sched.debugTrap = 0#16 ∨ s.sched.inhibit.getLsbD 1 = true → Step6Silent s →
    exec .boundary s = doneIn (.ok 0#64) (s.setSched (passEnd s 0#16))

/-- R222, R223, R226: a kill request ends the pass and changes nothing; a halted vCPU stays halted, or wakes and passes. -/
def Obligations.KillAndHalt : Prop :=
  ∀ s, s.aborted = false →
    (s.inp.killRequest = true → exec .boundary s = doneIn .killed s)
      ∧ (s.inp.killRequest = false → s.sched.activity ≠ .active → ¬Wakes s → exec .boundary s = doneIn .halted s)
      ∧ (s.inp.killRequest = false → s.sched.activity ≠ .active → Wakes s →
          exec .boundary s = exec .boundary (s.setSched { s.sched with activity := .active, inhibit := 0#2 }))

/-- R231, R232, R236, R211: the task-switch trap, the APIC-virtualization traps, in a guest or not, and the accumulated debug
trap. `apicTrapAnswer` is what the VMX host answers; that it is `Pass` without one is the model's reading (log entry 36). -/
def Obligations.BoundaryTraps : Prop :=
  (∀ s, PastStep1 s → s.sched.debugTrap.getLsbD 15 = true → exec .boundary s = raisedIn 1#8 0#16 s)
    ∧ (∀ s e, PastStep1 s → s.sched.debugTrap.getLsbD 15 = false → e = 12 ∨ e = 13 ∨ e = 14 → evOn s e →
        (∀ d, 12 ≤ d → d < e → ¬evOn s d) →
        (apicTrapAnswer s e = none → exec .boundary s = exec .boundary (clearedEvent s e))
          ∧ ∀ x, apicTrapAnswer s e = some x → exec .boundary s = doneIn .vmexit ((clearedEvent s e).exited x))
    ∧ ∀ s, PastStep4 s → s.sched.inhibit.getLsbD 1 = false → s.sched.debugTrap ≠ 0#16 →
        exec .boundary s = raisedIn 1#8 0#16 s

/-- R233, R234, R235, R229, R410: SMI, INIT and the monitor trap flag. -/
def Obligations.BoundaryStepFour : Prop :=
  ∀ s, PastStep3 s →
    (evOn s 1 → gifIs1 s →
        (plainAnswer s (.event .smi) = none → exec .boundary s = doneIn .smmEntry ((clearedEvent s 1).logged [.smmEntry]))
          ∧ ∀ x, plainAnswer s (.event .smi) = some x → exec .boundary s = doneIn .vmexit ((clearedEvent s 1).exited x))
      ∧ ((evOn s 1 → ¬gifIs1 s) → evOn s 2 → gifIs1 s →
          (plainAnswer s (.event .init) = none → exec .boundary s = doneIn .reset (resetTo s .init))
            ∧ ∀ x, plainAnswer s (.event .init) = some x → exec .boundary s = doneIn .vmexit ((clearedEvent s 2).exited x))
      ∧ ((evOn s 1 → ¬gifIs1 s) → (evOn s 2 → ¬gifIs1 s) → evOn s 4 →
          exec .boundary s = doneIn .vmexit ((clearedEvent s 4).exited ⟨.mtf, 0#64⟩))

/-- R238, R239, R240, R242: the VMX exits of step 6, in their order. An inhibited debug trap is lost before it (R237). -/
def Obligations.BoundaryWindowExits : Prop :=
  ∀ s, Step6Open s →
    (evOn s 5 → exec .boundary s = doneIn .vmexit ((clearedEvent (trapLost s) 5).exited ⟨.preemptionTimer, 0#64⟩))
      ∧ (¬evOn s 5 → evOn s 7 → exec .boundary s = doneIn .vmexit ((trapLost s).exited ⟨.nmiWindow, 0#64⟩))
      ∧ (¬evOn s 5 → ¬evOn s 7 → ¬evOn s 0 → ifIs1 s → evOn s 6 →
          exec .boundary s = doneIn .vmexit ((trapLost s).exited ⟨.interruptWindow, 0#64⟩))

/-- R241, R237, R238: the NMI masks itself and is delivered, before any maskable interrupt. -/
def Obligations.BoundaryNmi : Prop :=
  ∀ s, Step6Open s → ¬evOn s 5 → ¬evOn s 7 → evOn s 0 →
    (∀ t, plainAnswer s (.event .nmi) = none → DeliversTo (nmiTaken (trapLost s)) 2#8 2#3 false 0#16 t →
        exec .boundary s = doneIn (.delivered 2#8) t)
      ∧ ∀ x, plainAnswer s (.event .nmi) = some x → exec .boundary s = doneIn .vmexit ((nmiTaken (trapLost s)).exited x)

/-- R243, R237: the maskable interrupts: virtual, then local APIC, then PIC. -/
def Obligations.BoundaryMaskable : Prop :=
  ∀ s, MaskableTurn s → ifIs1 s →
    (evOn s 9 → ∀ t, DeliversTo (interruptTaken (trapLost s) 9 []) s.inp.vapicVector 0#3 false 0#16 t →
        exec .boundary s = doneIn (.delivered s.inp.vapicVector) t)
      ∧ (¬evOn s 9 → evOn s 11 →
          let s' := interruptTaken (trapLost s) 11 [.intAck s.inp.lapicVector]
          (∀ t, plainAnswer s (.event (.intr s.inp.lapicVector)) = none →
              DeliversTo s' s.inp.lapicVector 0#3 false 0#16 t → exec .boundary s = doneIn (.delivered s.inp.lapicVector) t)
            ∧ ∀ x, plainAnswer s (.event (.intr s.inp.lapicVector)) = some x →
                exec .boundary s = doneIn .vmexit (s'.exited x))
      ∧ (¬evOn s 9 → ¬evOn s 11 → evOn s 10 →
          let s' := interruptTaken (trapLost s) 10 [.intAck s.inp.picVector]
          (∀ t, plainAnswer s (.event (.intr s.inp.picVector)) = none →
              DeliversTo s' s.inp.picVector 0#3 false 0#16 t → exec .boundary s = doneIn (.delivered s.inp.picVector) t)
            ∧ ∀ x, plainAnswer s (.event (.intr s.inp.picVector)) = some x →
                exec .boundary s = doneIn .vmexit (s'.exited x))

/-- R244, R237: the SVM virtual interrupt, which leaves EXT as it was until its delivery, and the DMA hold. That the layer is
asked for a virtual interrupt is the model's reading (log entry 35). -/
def Obligations.BoundarySvmAndDma : Prop :=
  ∀ s, MaskableTurn s →
    (ifIs1 s → ¬evOn s 9 → ¬evOn s 10 → ¬evOn s 11 → evOn s 8 →
        let s' := (clearedEvent (trapLost s) 8).logged [.virtIntAck s.inp.svmVector]
        (∀ t, plainAnswer s (.event .vintr) = none → DeliversTo s' s.inp.svmVector 0#3 false 0#16 t →
            exec .boundary s = doneIn (.delivered s.inp.svmVector) t)
          ∧ ∀ x, plainAnswer s (.event .vintr) = some x → exec .boundary s = doneIn .vmexit (s'.exited x))
      ∧ ((ifIs1 s → ¬evOn s 8 ∧ ¬evOn s 9 ∧ ¬evOn s 10 ∧ ¬evOn s 11) → evOn s 15 →
          exec .boundary s = doneIn (.ok 0#64)
            (((clearedEvent s 15).logged [.dmaHoldAck]).setSched (passEnd (clearedEvent s 15) 0#16)))

/-- R250, R221: a pass sets no bit of `pending_event`. -/
def Obligations.PassSetsNoEvent : Prop :=
  ∀ s t, exec .boundary s = .next t → ∀ e, t.sched.pending.getLsbD e = true → s.sched.pending.getLsbD e = true

/-! ### Exceptions -/

/-- R260, R262 to R275: a `RAISE` whose exception is delivered and resolved, in each mode of delivery. The model's
readings in it: the addresses of a frame on a new stack are truncated to 32 bits outside long mode (log entry 12); `RAISE 8`
pushes the code it is given and `RAISE 17` that code with EXT in bit 0, where R264 notes 0 for both (log entry 32). -/
def Obligations.RaiseDelivers : Prop :=
  ∀ v ec addr s t, s.aborted = false → ExceptionTo (raiseEntry s v addr) v ec t →
    exec (.raise v ec addr) s = doneIn (.delivered v) t

/-- R260, R263, R266, R290, R115, R405: how `RAISE` and `INT` end. No raise is lost and none answers `OK`; a vector of 32
or more and a type that does not exist are internal errors; an intercepted exception exits with the fixed-up error code,
before any other write; what that code is for vectors 8 and 17 is the model's reading (log entry 32). -/
def Obligations.RaiseAndIntEnds : Prop :=
  (∀ v ec addr s t, s.aborted = false → exec (.raise v ec addr) s = .next t →
      t.kind = 2#4 ∨ t.kind = 9#4 ∨ t.kind = 3#4 ∨ t.kind = 6#4 ∨ t.kind = 7#4 ∨ t.kind = 15#4)
    ∧ (∀ v ec addr s, s.aborted = false → 32#8 ≤ v →
        exec (.raise v ec addr) s = doneIn .abort (s.abortedBy .badVector))
    ∧ (∀ v ec addr s x, s.aborted = false → v < 32#8 →
        plainAnswer s (.exc v (fixedCode v ec s.exc.extBit) (pushesCode v) 3#3 s.exc.extBit s.exc.inEvent) = some x →
        exec (.raise v ec addr) s = doneIn .vmexit ((raiseEntry s v addr).exited x))
    ∧ (∀ v type push ec s, s.aborted = false → type = 1#3 ∨ type = 7#3 →
        exec (.int v type push ec) s = doneIn .abort (s.abortedBy .badCommand))
    ∧ ∀ v type push ec s x, s.aborted = false → type = 5#3 ∨ type = 6#3 →
        plainAnswer s (.exc v ec push type s.exc.extBit s.exc.inEvent) = some x →
        exec (.int v type push ec) s = doneIn .vmexit (s.exited x)

/-- R271, R272, R279: when the pair is incompatible and something is delivered, it is #DF, and it is resolved. -/
def Obligations.IncompatiblePairIsDoubleFault : Prop :=
  ∀ v ec addr s t, s.aborted = false → v < 32#8 → v ≠ 8#8 → s.exc.lastType ≠ .doubleFault →
    ¬compatiblePair s.exc.lastType v → exec (.raise v ec addr) s = .next t → t.kind = 2#4 →
    t.respVector = 8#8 ∧ t.exc.lastType = .benign

/-- R274, R279: any exception while a double fault is unresolved is a triple fault: a reset or the terminal shutdown. The
code the layer is asked with for vectors 8 and 17 is the model's reading (log entry 32). -/
def Obligations.TripleFault : Prop :=
  ∀ v ec addr s, s.aborted = false → v < 32#8 → s.exc.lastType = .doubleFault →
    plainAnswer s (.exc v (fixedCode v ec s.exc.extBit) (pushesCode v) 3#3 s.exc.extBit s.exc.inEvent) = none →
    (s.cfg.tripleFaultAction = .reset → exec (.raise v ec addr) s = doneIn .reset (resetTo s .tripleFault))
      ∧ (s.cfg.tripleFaultAction = .shutdown →
          exec (.raise v ec addr) s = doneIn .shutdown (shutdownOf (rolledBack v (raiseEntry s v addr))))

/-! ### Delivery -/

/-- R290, R292, R293 and the rules of the three mode routines: an `INT` that is delivered, in real mode (R297 to R303), at
the same level (R337, R338), to an inner level (R332 to R343), in long mode (R355 to R372). That the addresses of a frame
on a new stack are truncated to 32 bits outside long mode is the model's reading (log entry 12). -/
def Obligations.IntDelivers : Prop :=
  ∀ v type push ec s t, IntEnters s v type push ec →
    DeliversTo s v type (push && decide (s.mode ≠ .real)) (if s.mode = .real then 0#16 else ec) t →
    exec (.int v type push ec) s = doneIn (.delivered v) t

/-- R303, R296, R299, R324 to R327, R329, R332 to R334, R337, R342: the tests of a legacy delivery, in their order: the IVT
entry, the stack and the CS limit of real mode; the protected-mode gate, the target code segment, TR, the new stack, the
offset and the stack limit. A frame on a new stack lies where log entry 12 puts it. -/
def Obligations.GateTests : Prop :=
  ∀ v type push ec s, IntEnters s v type push ec →
    (s.regs.lma = false → s.regs.pe = false → s.ctx.idtr.limit.toNat < 4 * v.toNat + 3 →
        exec (.int v type push ec) s = raisedIn 13#8 0#16 (legacyStart s))
      ∧ (s.regs.lma = false → s.regs.pe = true → s.cfg.cetSupported = false →
          s.ctx.idtr.limit.toNat < 8 * v.toNat + 7 →
          exec (.int v type push ec) s = raisedIn 13#8 (gateCode v) (legacyStart s))
      ∧ (GateReached s v →
          (¬protGateType (gateOf s v) → exec (.int v type push ec) s = raisedIn 13#8 (gateCode v) (gateRead s v))
            ∧ (protGateType (gateOf s v) → softType type = true → (gateOf s v).dpl < s.ctx.cpl →
                exec (.int v type push ec) s = raisedIn 13#8 (gateCode v) (gateRead s v))
            ∧ (protGateType (gateOf s v) → (softType type = true → s.ctx.cpl ≤ (gateOf s v).dpl) →
                (gateOf s v).p = false → exec (.int v type push ec) s = raisedIn 11#8 (gateCode v) (gateRead s v)))
      ∧ (∀ x c u, RealFault s v x c u ∨ CodeFault s v (softType type) x c u ∨ SameFault s v (softType type) push x c u
            ∨ (∃ big, InnerFault s v (softType type) push big x c u) →
          exec (.int v type push ec) s = raisedIn x c u)
      ∧ ∀ r, InnerAbort s v (softType type) r → exec (.int v type push ec) s = doneIn .abort ((codeRead s v).abortedBy r)

/-- R356, R357, R359 to R363, R366, R368: the tests of a long-mode delivery, in their order: the gate, the target code
segment, TR, the canonical slots, the canonical offset. -/
def Obligations.LongGateTests : Prop :=
  ∀ v type push ec s, IntEnters s v type push ec →
    (s.regs.lma = true → s.cfg.cetSupported = false → s.ctx.idtr.limit.toNat < 16 * v.toNat + 15 →
        exec (.int v type push ec) s = raisedIn 13#8 (gateCode v) (longStartState s))
      ∧ (LongGateReached s v →
          ((longHigh s v).extractLsb' 40 5 ≠ 0#5 ∨ ¬longGateType s v →
              exec (.int v type push ec) s = raisedIn 13#8 (gateCode v) (longGateRead s v))
            ∧ ((longHigh s v).extractLsb' 40 5 = 0#5 → longGateType s v → softType type = true →
                (longGateOf s v).dpl < s.ctx.cpl →
                exec (.int v type push ec) s = raisedIn 13#8 (gateCode v) (longGateRead s v))
            ∧ ((longHigh s v).extractLsb' 40 5 = 0#5 → longGateType s v →
                (softType type = true → s.ctx.cpl ≤ (longGateOf s v).dpl) → (longGateOf s v).p = false →
                exec (.int v type push ec) s = raisedIn 11#8 (gateCode v) (longGateRead s v)))
      ∧ (∀ x c u, LongFault s v (softType type) push ec x c u → exec (.int v type push ec) s = raisedIn x c u)
      ∧ ∀ r, LongAbort s v (softType type) r →
          exec (.int v type push ec) s = doneIn .abort ((longCodeRead s v).abortedBy r)

/-- R330: a task gate hands over to the task-switch unit, in the middle of the delivery (log entry 14), or raises on a
defect of the TSS descriptor it names. -/
def Obligations.TaskGateHandsOver : Prop :=
  ∀ v type push ec s, IntEnters s v type push ec →
    (TaskGateReady s v (softType type) →
        exec (.int v type push ec) s = doneIn (.taskSw v (gateOf s v).selector)
          ((codeRead s v).logged [.taskSwitch (gateOf s v).selector (codeOf s v) push ec]))
      ∧ ∀ x c u, TaskGateFault s v (softType type) x c u → exec (.int v type push ec) s = raisedIn x c u

/-- R298, R328, R335, R338, R367, R80: an `INT` that is delivered stores to the bytes of its frame and to no other byte.
That the addresses of a frame on a new stack are truncated to 32 bits is the model's reading (log entry 12), and that no
other agent stores in between its choice (log entry 33). -/
def Obligations.DeliveryStoresOnlyItsFrame : Prop :=
  ∀ v type push ec s t, IntEnters s v type push ec → s.mem.wf = true → exec (.int v type push ec) s = .next t → ∀ a,
    (RealReady s v →
        (∀ k j, 1 ≤ k → k ≤ 3 → j < 2 → a ≠ (slotAddr s.ctx 2 k + BitVec.ofNat 64 j).toNat) → t.mem.get a = s.mem.get a)
      ∧ (SameReady s v (softType type) push →
          (∀ k j, 1 ≤ k → k ≤ (if push then 4 else 3) → j < entrySize (gateOf s v) →
            a ≠ (slotAddr s.ctx (entrySize (gateOf s v)) k + BitVec.ofNat 64 j).toNat) → t.mem.get a = s.mem.get a)
      ∧ (∀ big, InnerReady s v (softType type) push big →
          (∀ k j, 1 ≤ k → k ≤ (innerEntries s.ctx push ec).length → j < entrySize (gateOf s v) →
            a ≠ (innerAddr s big (codeOf s v).dpl (entrySize (gateOf s v)) k + BitVec.ofNat 64 j).toNat) →
          t.mem.get a = s.mem.get a)
      ∧ (LongReady s v (softType type) push →
          (∀ k j, 1 ≤ k → k ≤ (if push then 6 else 5) → j < 8 →
            a ≠ (longSlot s v k + BitVec.ofNat 64 j).toNat) → t.mem.get a = s.mem.get a)

/-- R72, R73, R77: what a store of `n` bytes leaves is what a read of `n` bytes there finds, and no other byte changes. -/
def Obligations.StoreThenRead : Prop :=
  ∀ (m : Memory) (addr x : Word) (n : Nat), m.wf = true → n = 2 ∨ n = 4 ∨ n = 8 →
    (m.writeLE addr n x).wf = true
      ∧ ((m.writeLE addr n x).readLE addr n).toNat = x.toNat % 2 ^ (8 * n)
      ∧ ∀ a, (∀ j, j < n → a ≠ (addr + BitVec.ofNat 64 j).toNat) → (m.writeLE addr n x).get a = m.get a
end

