-- ==== Sys2Proof/Laws/Memory.lean ====
section
/-! SUPPORT. The laws of byte memories: a read after a write, a write leaves every other byte alone, and every memory
operation keeps the canonical form. -/

namespace Sys2Proof.Machine

/-! ### Reading what a cell operation left -/

theorem Memory.get_consCell (a : Nat) (b : Byte) (m : Memory) (x : Nat) (h : m.get a = Memory.unlisted) :
    (Memory.consCell a b m).get x = if x = a then b else m.get x := by
  unfold Memory.consCell
  split
  · rename_i hb
    by_cases hx : x = a
    · subst hx; simp [h, eq_of_beq hb]
    · simp [hx]
  · simp only [Memory.get]
    by_cases hx : x = a
    · simp [hx]
    · simp [hx, Ne.symm hx]

/-- The bound below which a canonical memory lists nothing. -/
theorem Memory.get_of_wfFrom_lt {m : Memory} {l x : Nat} (h : Memory.wfFrom (some l) m = true) (hx : x ≤ l) :
    m.get x = Memory.unlisted := by
  induction m generalizing l with
  | nil => rfl
  | cons c rest ih =>
    obtain ⟨k, b⟩ := c
    simp only [Memory.wfFrom, Bool.and_eq_true, decide_eq_true_eq] at h
    obtain ⟨⟨⟨h1, _⟩, _⟩, h4⟩ := h
    have hk : k ≠ x := by omega
    simp only [Memory.get, hk, if_false]
    exact ih h4 (by omega)

/-- A read after a write: the byte written, and every other byte as it was. -/
theorem Memory.get_set_from (m : Memory) (lo : Option Nat) (h : Memory.wfFrom lo m = true) (a : Nat) (b : Byte) (x : Nat) :
    (m.set a b).get x = if x = a then b else m.get x := by
  induction m generalizing lo with
  | nil => exact Memory.get_consCell a b [] x rfl
  | cons c rest ih =>
    obtain ⟨k, v⟩ := c
    simp only [Memory.wfFrom, Bool.and_eq_true] at h
    obtain ⟨_, h4⟩ := h
    simp only [Memory.set]
    split
    · rename_i hlt
      refine Memory.get_consCell a b _ x ?_
      have : k ≠ a := by omega
      simp only [Memory.get, this, if_false]
      exact Memory.get_of_wfFrom_lt h4 (by omega)
    · split
      · rename_i heq
        subst heq
        rw [Memory.get_consCell _ _ _ _ (Memory.get_of_wfFrom_lt h4 (by omega))]
        by_cases hx : x = a
        · simp [hx]
        · simp [Memory.get, hx, Ne.symm hx]
      · rename_i hne
        simp only [Memory.get]
        by_cases hk : k = x
        · subst hk; simp [Ne.symm hne]
        · simp only [hk, if_false]; exact ih _ h4

theorem Memory.get_set (m : Memory) (h : m.wf = true) (a : Nat) (b : Byte) (x : Nat) :
    (m.set a b).get x = if x = a then b else m.get x := Memory.get_set_from m none h a b x

/-! ### The canonical form -/

theorem Memory.wfFrom_weaken {m : Memory} {l : Nat} {lo : Option Nat} (h : Memory.wfFrom (some l) m = true)
    (hl : ∀ x, lo = some x → x ≤ l) : Memory.wfFrom lo m = true := by
  cases m with
  | nil => rfl
  | cons c rest =>
    obtain ⟨k, b⟩ := c
    simp only [Memory.wfFrom, Bool.and_eq_true, decide_eq_true_eq] at h ⊢
    refine ⟨⟨⟨?_, h.1.1.2⟩, h.1.2⟩, h.2⟩
    cases lo with
    | none => rfl
    | some x => have := hl x rfl; have := h.1.1.1; simp only [decide_eq_true_eq]; omega

theorem Memory.wfFrom_consCell {m : Memory} {a : Nat} {b : Byte} {lo : Option Nat}
    (h : Memory.wfFrom (some a) m = true) (ha : a < 2 ^ 64) (hlo : ∀ x, lo = some x → x < a) :
    Memory.wfFrom lo (Memory.consCell a b m) = true := by
  unfold Memory.consCell
  split
  · exact Memory.wfFrom_weaken h fun x hx => Nat.le_of_lt (hlo x hx)
  · rename_i hb
    simp only [Memory.wfFrom, Bool.and_eq_true, decide_eq_true_eq]
    refine ⟨⟨⟨?_, ha⟩, ?_⟩, h⟩
    · cases lo with
      | none => rfl
      | some x => simpa using hlo x rfl
    · simpa [bne] using hb

theorem Memory.wfFrom_set (m : Memory) (lo : Option Nat) (a : Nat) (b : Byte) (h : Memory.wfFrom lo m = true)
    (ha : a < 2 ^ 64) (hlo : ∀ x, lo = some x → x < a) : Memory.wfFrom lo (m.set a b) = true := by
  induction m generalizing lo with
  | nil => exact Memory.wfFrom_consCell (m := []) rfl ha hlo
  | cons c rest ih =>
    obtain ⟨k, v⟩ := c
    have h' := h
    simp only [Memory.wfFrom, Bool.and_eq_true, decide_eq_true_eq] at h
    obtain ⟨⟨⟨h1, h2⟩, h3⟩, h4⟩ := h
    simp only [Memory.set]
    split
    · rename_i hlt
      refine Memory.wfFrom_consCell ?_ ha hlo
      simp only [Memory.wfFrom, Bool.and_eq_true, decide_eq_true_eq]
      exact ⟨⟨⟨hlt, h2⟩, h3⟩, h4⟩
    · split
      · rename_i heq
        subst heq
        exact Memory.wfFrom_consCell h4 ha hlo
      · simp only [Memory.wfFrom, Bool.and_eq_true, decide_eq_true_eq]
        exact ⟨⟨⟨h1, h2⟩, h3⟩, ih (some k) h4 (by intro x hx; cases hx; omega)⟩

/-- Storing a byte keeps the canonical form. -/
theorem Memory.wf_set {m : Memory} (h : m.wf = true) (a : Word) (b : Byte) : (m.set a.toNat b).wf = true :=
  Memory.wfFrom_set m none _ b h a.isLt (by simp)

/-- Storing a value keeps the canonical form. -/
theorem Memory.wf_writeLE {m : Memory} (h : m.wf = true) (a : Word) (n : Nat) (v : Word) :
    (m.writeLE a n v).wf = true := by
  induction n generalizing m a v with
  | zero => exact h
  | succ n ih => exact ih (Memory.wf_set h a _) _ _

theorem Memory.wf_nil : Memory.wf [] = true := rfl

/-! ### Values -/

/-- A byte that no byte of the value is stored to reads as before. -/
theorem Memory.get_writeLE_other {m : Memory} (h : m.wf = true) (a : Word) (n : Nat) (v : Word) (x : Nat)
    (hx : ∀ k < n, x ≠ (a + BitVec.ofNat 64 k).toNat) : (m.writeLE a n v).get x = m.get x := by
  induction n generalizing m a v with
  | zero => rfl
  | succ n ih =>
    rw [Memory.writeLE, ih (Memory.wf_set h a _), Memory.get_set m h]
    · have := hx 0 (by omega)
      simp only [BitVec.add_zero] at this
      simp [this]
    · intro k hk
      have := hx (k + 1) (by omega)
      rwa [show a + 1#64 + BitVec.ofNat 64 k = a + BitVec.ofNat 64 (k + 1) by
        rw [BitVec.add_assoc]; congr 1; rw [BitVec.add_comm, BitVec.ofNat_add]]

/-- Each byte of a stored value, least significant first (R77). -/
theorem Memory.get_writeLE_at {m : Memory} (h : m.wf = true) (a : Word) (n : Nat) (v : Word) (k : Nat) (hk : k < n)
    (hn : n ≤ 2 ^ 32) :
    (m.writeLE a n v).get (a + BitVec.ofNat 64 k).toNat = (v >>> (8 * k)).setWidth 8 := by
  induction n generalizing m a v k with
  | zero => omega
  | succ n ih =>
    rw [Memory.writeLE]
    cases k with
    | zero =>
      rw [Memory.get_writeLE_other (Memory.wf_set h a _), Memory.get_set m h]
      · simp
      · intro k hk
        rw [ne_eq, BitVec.toNat_inj]
        intro e
        have e' := congrArg BitVec.toNat e
        have := a.isLt
        simp only [BitVec.toNat_add, BitVec.toNat_ofNat] at e'
        omega
    | succ k =>
      have := ih (Memory.wf_set h a (v.setWidth 8)) (a + 1#64) (v >>> 8) k (by omega) (by omega)
      rw [show a + BitVec.ofNat 64 (k + 1) = a + 1#64 + BitVec.ofNat 64 k by
        rw [BitVec.add_assoc]; congr 1; rw [BitVec.add_comm, BitVec.ofNat_add]]
      rw [this, ← BitVec.shiftRight_add]
      congr 2
      omega

/-- Each bit of a value read, from the bytes it is read from (R77). -/
theorem Memory.getLsbD_readLE (m : Memory) (a : Word) (n i : Nat) (hi : i < 64) :
    (m.readLE a n).getLsbD i
      = (decide (i < 8 * n) && (m.get (a + BitVec.ofNat 64 (i / 8)).toNat).getLsbD (i % 8)) := by
  induction n generalizing a i with
  | zero => simp [Memory.readLE]
  | succ n ih =>
    rw [Memory.readLE]
    simp only [BitVec.getLsbD_or, BitVec.getLsbD_setWidth, BitVec.getLsbD_shiftLeft, hi, decide_true, Bool.true_and]
    by_cases h8 : i < 8
    · simp only [h8, decide_true, Bool.not_true, Bool.false_and, Bool.or_false,
        Nat.div_eq_of_lt h8, Nat.mod_eq_of_lt h8, BitVec.add_zero]
      simp [show i < 8 * (n + 1) by omega]
    · rw [ih (a + 1#64) (i - 8) (by omega)]
      have h1 : (m.get a.toNat).getLsbD i = false := BitVec.getLsbD_of_ge _ _ (by omega)
      have h2 : i / 8 = (i - 8) / 8 + 1 := by omega
      have h3 : (i - 8) % 8 = i % 8 := by omega
      simp only [h1, h8, decide_false, Bool.not_false, Bool.true_and, Bool.false_or, h3]
      rw [show a + BitVec.ofNat 64 (i / 8) = a + 1#64 + BitVec.ofNat 64 ((i - 8) / 8) by
        rw [BitVec.add_assoc, h2]; congr 1; rw [BitVec.add_comm, BitVec.ofNat_add]]
      simp only [show (i < 8 * (n + 1)) = (i - 8 < 8 * n) by apply propext; omega]

/-- Reading depends only on the bytes read. -/
theorem Memory.readLE_congr {m m' : Memory} {a : Word} {n : Nat}
    (h : ∀ k < n, m.get (a + BitVec.ofNat 64 k).toNat = m'.get (a + BitVec.ofNat 64 k).toNat) :
    m.readLE a n = m'.readLE a n := by
  induction n generalizing a with
  | zero => rfl
  | succ n ih =>
    rw [Memory.readLE, Memory.readLE]
    have h0 := h 0 (by omega)
    simp only [BitVec.add_zero] at h0
    rw [h0, ih]
    intro k hk
    have := h (k + 1) (by omega)
    rwa [show a + 1#64 + BitVec.ofNat 64 k = a + BitVec.ofNat 64 (k + 1) by
      rw [BitVec.add_assoc]; congr 1; rw [BitVec.add_comm, BitVec.ofNat_add]]

/-- A read after a write to the same place: the low bytes of the value written. -/
theorem Memory.getLsbD_readLE_writeLE {m : Memory} (h : m.wf = true) (a : Word) (n : Nat) (v : Word) (i : Nat)
    (hi : i < 64) (hn : n ≤ 2 ^ 32) :
    ((m.writeLE a n v).readLE a n).getLsbD i = (decide (i < 8 * n) && v.getLsbD i) := by
  rw [Memory.getLsbD_readLE _ _ _ _ hi]
  by_cases hlt : i < 8 * n
  · rw [Memory.get_writeLE_at h a n v (i / 8) (by omega) hn]
    simp only [hlt, decide_true, Bool.true_and, BitVec.getLsbD_setWidth, BitVec.getLsbD_ushiftRight,
      Nat.mod_lt i (by omega : 8 > 0)]
    congr 1
    omega
  · simp [hlt]

end Sys2Proof.Machine
end

