-- ==== Sys2Proof/Laws/State.lean ====
section
/-! SUPPORT. One lemma per field per update of `State`, and the update algebra the provers need: a field set twice, a field
set to what it was, and `respond`. -/

namespace Sys2Proof.Machine

/-! ### `setRegs` -/

@[simp] theorem State.setRegs_cfg (s : State) (v : ControlRegs) : (s.setRegs v).cfg = s.cfg := rfl
@[simp] theorem State.setRegs_regs (s : State) (v : ControlRegs) : (s.setRegs v).regs = v := rfl
@[simp] theorem State.setRegs_ctx (s : State) (v : ControlRegs) : (s.setRegs v).ctx = s.ctx := rfl
@[simp] theorem State.setRegs_sched (s : State) (v : ControlRegs) : (s.setRegs v).sched = s.sched := rfl
@[simp] theorem State.setRegs_exc (s : State) (v : ControlRegs) : (s.setRegs v).exc = s.exc := rfl
@[simp] theorem State.setRegs_tpr (s : State) (v : ControlRegs) : (s.setRegs v).tpr = s.tpr := rfl
@[simp] theorem State.setRegs_vtpr (s : State) (v : ControlRegs) : (s.setRegs v).vtpr = s.vtpr := rfl
@[simp] theorem State.setRegs_inp (s : State) (v : ControlRegs) : (s.setRegs v).inp = s.inp := rfl
@[simp] theorem State.setRegs_hist (s : State) (v : ControlRegs) : (s.setRegs v).hist = s.hist := rfl
@[simp] theorem State.setRegs_aborted (s : State) (v : ControlRegs) : (s.setRegs v).aborted = s.aborted := rfl
@[simp] theorem State.setRegs_response (s : State) (v : ControlRegs) : (s.setRegs v).response = s.response := rfl
@[simp] theorem State.setRegs_mem (s : State) (v : ControlRegs) : (s.setRegs v).mem = s.mem := rfl
@[simp] theorem State.setRegs_phys (s : State) (v : ControlRegs) : (s.setRegs v).phys = s.phys := rfl
@[simp] theorem State.setRegs_port (s : State) (v : ControlRegs) : (s.setRegs v).port = s.port := rfl
@[simp] theorem State.setRegs_queue (s : State) (v : ControlRegs) : (s.setRegs v).queue = s.queue := rfl
@[simp] theorem State.setRegs_setRegs (s : State) (v w : ControlRegs) : (s.setRegs v).setRegs w = s.setRegs w := rfl
@[simp] theorem State.setRegs_self (s : State) : s.setRegs s.regs = s := rfl

/-! ### `setCtx` -/

@[simp] theorem State.setCtx_cfg (s : State) (v : Context) : (s.setCtx v).cfg = s.cfg := rfl
@[simp] theorem State.setCtx_regs (s : State) (v : Context) : (s.setCtx v).regs = s.regs := rfl
@[simp] theorem State.setCtx_ctx (s : State) (v : Context) : (s.setCtx v).ctx = v := rfl
@[simp] theorem State.setCtx_sched (s : State) (v : Context) : (s.setCtx v).sched = s.sched := rfl
@[simp] theorem State.setCtx_exc (s : State) (v : Context) : (s.setCtx v).exc = s.exc := rfl
@[simp] theorem State.setCtx_tpr (s : State) (v : Context) : (s.setCtx v).tpr = s.tpr := rfl
@[simp] theorem State.setCtx_vtpr (s : State) (v : Context) : (s.setCtx v).vtpr = s.vtpr := rfl
@[simp] theorem State.setCtx_inp (s : State) (v : Context) : (s.setCtx v).inp = s.inp := rfl
@[simp] theorem State.setCtx_hist (s : State) (v : Context) : (s.setCtx v).hist = s.hist := rfl
@[simp] theorem State.setCtx_aborted (s : State) (v : Context) : (s.setCtx v).aborted = s.aborted := rfl
@[simp] theorem State.setCtx_response (s : State) (v : Context) : (s.setCtx v).response = s.response := rfl
@[simp] theorem State.setCtx_mem (s : State) (v : Context) : (s.setCtx v).mem = s.mem := rfl
@[simp] theorem State.setCtx_phys (s : State) (v : Context) : (s.setCtx v).phys = s.phys := rfl
@[simp] theorem State.setCtx_port (s : State) (v : Context) : (s.setCtx v).port = s.port := rfl
@[simp] theorem State.setCtx_queue (s : State) (v : Context) : (s.setCtx v).queue = s.queue := rfl
@[simp] theorem State.setCtx_setCtx (s : State) (v w : Context) : (s.setCtx v).setCtx w = s.setCtx w := rfl
@[simp] theorem State.setCtx_self (s : State) : s.setCtx s.ctx = s := rfl

/-! ### `setSched` -/

@[simp] theorem State.setSched_cfg (s : State) (v : Sched) : (s.setSched v).cfg = s.cfg := rfl
@[simp] theorem State.setSched_regs (s : State) (v : Sched) : (s.setSched v).regs = s.regs := rfl
@[simp] theorem State.setSched_ctx (s : State) (v : Sched) : (s.setSched v).ctx = s.ctx := rfl
@[simp] theorem State.setSched_sched (s : State) (v : Sched) : (s.setSched v).sched = v := rfl
@[simp] theorem State.setSched_exc (s : State) (v : Sched) : (s.setSched v).exc = s.exc := rfl
@[simp] theorem State.setSched_tpr (s : State) (v : Sched) : (s.setSched v).tpr = s.tpr := rfl
@[simp] theorem State.setSched_vtpr (s : State) (v : Sched) : (s.setSched v).vtpr = s.vtpr := rfl
@[simp] theorem State.setSched_inp (s : State) (v : Sched) : (s.setSched v).inp = s.inp := rfl
@[simp] theorem State.setSched_hist (s : State) (v : Sched) : (s.setSched v).hist = s.hist := rfl
@[simp] theorem State.setSched_aborted (s : State) (v : Sched) : (s.setSched v).aborted = s.aborted := rfl
@[simp] theorem State.setSched_response (s : State) (v : Sched) : (s.setSched v).response = s.response := rfl
@[simp] theorem State.setSched_mem (s : State) (v : Sched) : (s.setSched v).mem = s.mem := rfl
@[simp] theorem State.setSched_phys (s : State) (v : Sched) : (s.setSched v).phys = s.phys := rfl
@[simp] theorem State.setSched_port (s : State) (v : Sched) : (s.setSched v).port = s.port := rfl
@[simp] theorem State.setSched_queue (s : State) (v : Sched) : (s.setSched v).queue = s.queue := rfl
@[simp] theorem State.setSched_setSched (s : State) (v w : Sched) : (s.setSched v).setSched w = s.setSched w := rfl
@[simp] theorem State.setSched_self (s : State) : s.setSched s.sched = s := rfl

/-! ### `setExc` -/

@[simp] theorem State.setExc_cfg (s : State) (v : ExcState) : (s.setExc v).cfg = s.cfg := rfl
@[simp] theorem State.setExc_regs (s : State) (v : ExcState) : (s.setExc v).regs = s.regs := rfl
@[simp] theorem State.setExc_ctx (s : State) (v : ExcState) : (s.setExc v).ctx = s.ctx := rfl
@[simp] theorem State.setExc_sched (s : State) (v : ExcState) : (s.setExc v).sched = s.sched := rfl
@[simp] theorem State.setExc_exc (s : State) (v : ExcState) : (s.setExc v).exc = v := rfl
@[simp] theorem State.setExc_tpr (s : State) (v : ExcState) : (s.setExc v).tpr = s.tpr := rfl
@[simp] theorem State.setExc_vtpr (s : State) (v : ExcState) : (s.setExc v).vtpr = s.vtpr := rfl
@[simp] theorem State.setExc_inp (s : State) (v : ExcState) : (s.setExc v).inp = s.inp := rfl
@[simp] theorem State.setExc_hist (s : State) (v : ExcState) : (s.setExc v).hist = s.hist := rfl
@[simp] theorem State.setExc_aborted (s : State) (v : ExcState) : (s.setExc v).aborted = s.aborted := rfl
@[simp] theorem State.setExc_response (s : State) (v : ExcState) : (s.setExc v).response = s.response := rfl
@[simp] theorem State.setExc_mem (s : State) (v : ExcState) : (s.setExc v).mem = s.mem := rfl
@[simp] theorem State.setExc_phys (s : State) (v : ExcState) : (s.setExc v).phys = s.phys := rfl
@[simp] theorem State.setExc_port (s : State) (v : ExcState) : (s.setExc v).port = s.port := rfl
@[simp] theorem State.setExc_queue (s : State) (v : ExcState) : (s.setExc v).queue = s.queue := rfl
@[simp] theorem State.setExc_setExc (s : State) (v w : ExcState) : (s.setExc v).setExc w = s.setExc w := rfl
@[simp] theorem State.setExc_self (s : State) : s.setExc s.exc = s := rfl

/-! ### `setTpr` -/

@[simp] theorem State.setTpr_cfg (s : State) (v : BitVec 8) : (s.setTpr v).cfg = s.cfg := rfl
@[simp] theorem State.setTpr_regs (s : State) (v : BitVec 8) : (s.setTpr v).regs = s.regs := rfl
@[simp] theorem State.setTpr_ctx (s : State) (v : BitVec 8) : (s.setTpr v).ctx = s.ctx := rfl
@[simp] theorem State.setTpr_sched (s : State) (v : BitVec 8) : (s.setTpr v).sched = s.sched := rfl
@[simp] theorem State.setTpr_exc (s : State) (v : BitVec 8) : (s.setTpr v).exc = s.exc := rfl
@[simp] theorem State.setTpr_tpr (s : State) (v : BitVec 8) : (s.setTpr v).tpr = v := rfl
@[simp] theorem State.setTpr_vtpr (s : State) (v : BitVec 8) : (s.setTpr v).vtpr = s.vtpr := rfl
@[simp] theorem State.setTpr_inp (s : State) (v : BitVec 8) : (s.setTpr v).inp = s.inp := rfl
@[simp] theorem State.setTpr_hist (s : State) (v : BitVec 8) : (s.setTpr v).hist = s.hist := rfl
@[simp] theorem State.setTpr_aborted (s : State) (v : BitVec 8) : (s.setTpr v).aborted = s.aborted := rfl
@[simp] theorem State.setTpr_response (s : State) (v : BitVec 8) : (s.setTpr v).response = s.response := rfl
@[simp] theorem State.setTpr_mem (s : State) (v : BitVec 8) : (s.setTpr v).mem = s.mem := rfl
@[simp] theorem State.setTpr_phys (s : State) (v : BitVec 8) : (s.setTpr v).phys = s.phys := rfl
@[simp] theorem State.setTpr_port (s : State) (v : BitVec 8) : (s.setTpr v).port = s.port := rfl
@[simp] theorem State.setTpr_queue (s : State) (v : BitVec 8) : (s.setTpr v).queue = s.queue := rfl
@[simp] theorem State.setTpr_setTpr (s : State) (v w : BitVec 8) : (s.setTpr v).setTpr w = s.setTpr w := rfl
@[simp] theorem State.setTpr_self (s : State) : s.setTpr s.tpr = s := rfl

/-! ### `setVTpr` -/

@[simp] theorem State.setVTpr_cfg (s : State) (v : BitVec 8) : (s.setVTpr v).cfg = s.cfg := rfl
@[simp] theorem State.setVTpr_regs (s : State) (v : BitVec 8) : (s.setVTpr v).regs = s.regs := rfl
@[simp] theorem State.setVTpr_ctx (s : State) (v : BitVec 8) : (s.setVTpr v).ctx = s.ctx := rfl
@[simp] theorem State.setVTpr_sched (s : State) (v : BitVec 8) : (s.setVTpr v).sched = s.sched := rfl
@[simp] theorem State.setVTpr_exc (s : State) (v : BitVec 8) : (s.setVTpr v).exc = s.exc := rfl
@[simp] theorem State.setVTpr_tpr (s : State) (v : BitVec 8) : (s.setVTpr v).tpr = s.tpr := rfl
@[simp] theorem State.setVTpr_vtpr (s : State) (v : BitVec 8) : (s.setVTpr v).vtpr = v := rfl
@[simp] theorem State.setVTpr_inp (s : State) (v : BitVec 8) : (s.setVTpr v).inp = s.inp := rfl
@[simp] theorem State.setVTpr_hist (s : State) (v : BitVec 8) : (s.setVTpr v).hist = s.hist := rfl
@[simp] theorem State.setVTpr_aborted (s : State) (v : BitVec 8) : (s.setVTpr v).aborted = s.aborted := rfl
@[simp] theorem State.setVTpr_response (s : State) (v : BitVec 8) : (s.setVTpr v).response = s.response := rfl
@[simp] theorem State.setVTpr_mem (s : State) (v : BitVec 8) : (s.setVTpr v).mem = s.mem := rfl
@[simp] theorem State.setVTpr_phys (s : State) (v : BitVec 8) : (s.setVTpr v).phys = s.phys := rfl
@[simp] theorem State.setVTpr_port (s : State) (v : BitVec 8) : (s.setVTpr v).port = s.port := rfl
@[simp] theorem State.setVTpr_queue (s : State) (v : BitVec 8) : (s.setVTpr v).queue = s.queue := rfl
@[simp] theorem State.setVTpr_setVTpr (s : State) (v w : BitVec 8) : (s.setVTpr v).setVTpr w = s.setVTpr w := rfl
@[simp] theorem State.setVTpr_self (s : State) : s.setVTpr s.vtpr = s := rfl

/-! ### `setInp` -/

@[simp] theorem State.setInp_cfg (s : State) (v : Inputs) : (s.setInp v).cfg = s.cfg := rfl
@[simp] theorem State.setInp_regs (s : State) (v : Inputs) : (s.setInp v).regs = s.regs := rfl
@[simp] theorem State.setInp_ctx (s : State) (v : Inputs) : (s.setInp v).ctx = s.ctx := rfl
@[simp] theorem State.setInp_sched (s : State) (v : Inputs) : (s.setInp v).sched = s.sched := rfl
@[simp] theorem State.setInp_exc (s : State) (v : Inputs) : (s.setInp v).exc = s.exc := rfl
@[simp] theorem State.setInp_tpr (s : State) (v : Inputs) : (s.setInp v).tpr = s.tpr := rfl
@[simp] theorem State.setInp_vtpr (s : State) (v : Inputs) : (s.setInp v).vtpr = s.vtpr := rfl
@[simp] theorem State.setInp_inp (s : State) (v : Inputs) : (s.setInp v).inp = v := rfl
@[simp] theorem State.setInp_hist (s : State) (v : Inputs) : (s.setInp v).hist = s.hist := rfl
@[simp] theorem State.setInp_aborted (s : State) (v : Inputs) : (s.setInp v).aborted = s.aborted := rfl
@[simp] theorem State.setInp_response (s : State) (v : Inputs) : (s.setInp v).response = s.response := rfl
@[simp] theorem State.setInp_mem (s : State) (v : Inputs) : (s.setInp v).mem = s.mem := rfl
@[simp] theorem State.setInp_phys (s : State) (v : Inputs) : (s.setInp v).phys = s.phys := rfl
@[simp] theorem State.setInp_port (s : State) (v : Inputs) : (s.setInp v).port = s.port := rfl
@[simp] theorem State.setInp_queue (s : State) (v : Inputs) : (s.setInp v).queue = s.queue := rfl
@[simp] theorem State.setInp_setInp (s : State) (v w : Inputs) : (s.setInp v).setInp w = s.setInp w := rfl
@[simp] theorem State.setInp_self (s : State) : s.setInp s.inp = s := rfl

/-! ### `setHist` -/

@[simp] theorem State.setHist_cfg (s : State) (v : List Event) : (s.setHist v).cfg = s.cfg := rfl
@[simp] theorem State.setHist_regs (s : State) (v : List Event) : (s.setHist v).regs = s.regs := rfl
@[simp] theorem State.setHist_ctx (s : State) (v : List Event) : (s.setHist v).ctx = s.ctx := rfl
@[simp] theorem State.setHist_sched (s : State) (v : List Event) : (s.setHist v).sched = s.sched := rfl
@[simp] theorem State.setHist_exc (s : State) (v : List Event) : (s.setHist v).exc = s.exc := rfl
@[simp] theorem State.setHist_tpr (s : State) (v : List Event) : (s.setHist v).tpr = s.tpr := rfl
@[simp] theorem State.setHist_vtpr (s : State) (v : List Event) : (s.setHist v).vtpr = s.vtpr := rfl
@[simp] theorem State.setHist_inp (s : State) (v : List Event) : (s.setHist v).inp = s.inp := rfl
@[simp] theorem State.setHist_hist (s : State) (v : List Event) : (s.setHist v).hist = v := rfl
@[simp] theorem State.setHist_aborted (s : State) (v : List Event) : (s.setHist v).aborted = s.aborted := rfl
@[simp] theorem State.setHist_response (s : State) (v : List Event) : (s.setHist v).response = s.response := rfl
@[simp] theorem State.setHist_mem (s : State) (v : List Event) : (s.setHist v).mem = s.mem := rfl
@[simp] theorem State.setHist_phys (s : State) (v : List Event) : (s.setHist v).phys = s.phys := rfl
@[simp] theorem State.setHist_port (s : State) (v : List Event) : (s.setHist v).port = s.port := rfl
@[simp] theorem State.setHist_queue (s : State) (v : List Event) : (s.setHist v).queue = s.queue := rfl
@[simp] theorem State.setHist_setHist (s : State) (v w : List Event) : (s.setHist v).setHist w = s.setHist w := rfl
@[simp] theorem State.setHist_self (s : State) : s.setHist s.hist = s := rfl

/-! ### `setAborted` -/

@[simp] theorem State.setAborted_cfg (s : State) (v : Bool) : (s.setAborted v).cfg = s.cfg := rfl
@[simp] theorem State.setAborted_regs (s : State) (v : Bool) : (s.setAborted v).regs = s.regs := rfl
@[simp] theorem State.setAborted_ctx (s : State) (v : Bool) : (s.setAborted v).ctx = s.ctx := rfl
@[simp] theorem State.setAborted_sched (s : State) (v : Bool) : (s.setAborted v).sched = s.sched := rfl
@[simp] theorem State.setAborted_exc (s : State) (v : Bool) : (s.setAborted v).exc = s.exc := rfl
@[simp] theorem State.setAborted_tpr (s : State) (v : Bool) : (s.setAborted v).tpr = s.tpr := rfl
@[simp] theorem State.setAborted_vtpr (s : State) (v : Bool) : (s.setAborted v).vtpr = s.vtpr := rfl
@[simp] theorem State.setAborted_inp (s : State) (v : Bool) : (s.setAborted v).inp = s.inp := rfl
@[simp] theorem State.setAborted_hist (s : State) (v : Bool) : (s.setAborted v).hist = s.hist := rfl
@[simp] theorem State.setAborted_aborted (s : State) (v : Bool) : (s.setAborted v).aborted = v := rfl
@[simp] theorem State.setAborted_response (s : State) (v : Bool) : (s.setAborted v).response = s.response := rfl
@[simp] theorem State.setAborted_mem (s : State) (v : Bool) : (s.setAborted v).mem = s.mem := rfl
@[simp] theorem State.setAborted_phys (s : State) (v : Bool) : (s.setAborted v).phys = s.phys := rfl
@[simp] theorem State.setAborted_port (s : State) (v : Bool) : (s.setAborted v).port = s.port := rfl
@[simp] theorem State.setAborted_queue (s : State) (v : Bool) : (s.setAborted v).queue = s.queue := rfl
@[simp] theorem State.setAborted_setAborted (s : State) (v w : Bool) : (s.setAborted v).setAborted w = s.setAborted w := rfl
@[simp] theorem State.setAborted_self (s : State) : s.setAborted s.aborted = s := rfl

/-! ### `setResponse` -/

@[simp] theorem State.setResponse_cfg (s : State) (v : Response) : (s.setResponse v).cfg = s.cfg := rfl
@[simp] theorem State.setResponse_regs (s : State) (v : Response) : (s.setResponse v).regs = s.regs := rfl
@[simp] theorem State.setResponse_ctx (s : State) (v : Response) : (s.setResponse v).ctx = s.ctx := rfl
@[simp] theorem State.setResponse_sched (s : State) (v : Response) : (s.setResponse v).sched = s.sched := rfl
@[simp] theorem State.setResponse_exc (s : State) (v : Response) : (s.setResponse v).exc = s.exc := rfl
@[simp] theorem State.setResponse_tpr (s : State) (v : Response) : (s.setResponse v).tpr = s.tpr := rfl
@[simp] theorem State.setResponse_vtpr (s : State) (v : Response) : (s.setResponse v).vtpr = s.vtpr := rfl
@[simp] theorem State.setResponse_inp (s : State) (v : Response) : (s.setResponse v).inp = s.inp := rfl
@[simp] theorem State.setResponse_hist (s : State) (v : Response) : (s.setResponse v).hist = s.hist := rfl
@[simp] theorem State.setResponse_aborted (s : State) (v : Response) : (s.setResponse v).aborted = s.aborted := rfl
@[simp] theorem State.setResponse_response (s : State) (v : Response) : (s.setResponse v).response = v := rfl
@[simp] theorem State.setResponse_mem (s : State) (v : Response) : (s.setResponse v).mem = s.mem := rfl
@[simp] theorem State.setResponse_phys (s : State) (v : Response) : (s.setResponse v).phys = s.phys := rfl
@[simp] theorem State.setResponse_port (s : State) (v : Response) : (s.setResponse v).port = s.port := rfl
@[simp] theorem State.setResponse_queue (s : State) (v : Response) : (s.setResponse v).queue = s.queue := rfl
@[simp] theorem State.setResponse_setResponse (s : State) (v w : Response) : (s.setResponse v).setResponse w = s.setResponse w := rfl
@[simp] theorem State.setResponse_self (s : State) : s.setResponse s.response = s := rfl

/-! ### `setMem` -/

@[simp] theorem State.setMem_cfg (s : State) (v : Memory) : (s.setMem v).cfg = s.cfg := rfl
@[simp] theorem State.setMem_regs (s : State) (v : Memory) : (s.setMem v).regs = s.regs := rfl
@[simp] theorem State.setMem_ctx (s : State) (v : Memory) : (s.setMem v).ctx = s.ctx := rfl
@[simp] theorem State.setMem_sched (s : State) (v : Memory) : (s.setMem v).sched = s.sched := rfl
@[simp] theorem State.setMem_exc (s : State) (v : Memory) : (s.setMem v).exc = s.exc := rfl
@[simp] theorem State.setMem_tpr (s : State) (v : Memory) : (s.setMem v).tpr = s.tpr := rfl
@[simp] theorem State.setMem_vtpr (s : State) (v : Memory) : (s.setMem v).vtpr = s.vtpr := rfl
@[simp] theorem State.setMem_inp (s : State) (v : Memory) : (s.setMem v).inp = s.inp := rfl
@[simp] theorem State.setMem_hist (s : State) (v : Memory) : (s.setMem v).hist = s.hist := rfl
@[simp] theorem State.setMem_aborted (s : State) (v : Memory) : (s.setMem v).aborted = s.aborted := rfl
@[simp] theorem State.setMem_response (s : State) (v : Memory) : (s.setMem v).response = s.response := rfl
@[simp] theorem State.setMem_mem (s : State) (v : Memory) : (s.setMem v).mem = v := rfl
@[simp] theorem State.setMem_phys (s : State) (v : Memory) : (s.setMem v).phys = s.phys := rfl
@[simp] theorem State.setMem_port (s : State) (v : Memory) : (s.setMem v).port = s.port := rfl
@[simp] theorem State.setMem_queue (s : State) (v : Memory) : (s.setMem v).queue = s.queue := rfl
@[simp] theorem State.setMem_setMem (s : State) (v w : Memory) : (s.setMem v).setMem w = s.setMem w := rfl
@[simp] theorem State.setMem_self (s : State) : s.setMem s.mem = s := rfl

/-! ### `setPhys` -/

@[simp] theorem State.setPhys_cfg (s : State) (v : Memory) : (s.setPhys v).cfg = s.cfg := rfl
@[simp] theorem State.setPhys_regs (s : State) (v : Memory) : (s.setPhys v).regs = s.regs := rfl
@[simp] theorem State.setPhys_ctx (s : State) (v : Memory) : (s.setPhys v).ctx = s.ctx := rfl
@[simp] theorem State.setPhys_sched (s : State) (v : Memory) : (s.setPhys v).sched = s.sched := rfl
@[simp] theorem State.setPhys_exc (s : State) (v : Memory) : (s.setPhys v).exc = s.exc := rfl
@[simp] theorem State.setPhys_tpr (s : State) (v : Memory) : (s.setPhys v).tpr = s.tpr := rfl
@[simp] theorem State.setPhys_vtpr (s : State) (v : Memory) : (s.setPhys v).vtpr = s.vtpr := rfl
@[simp] theorem State.setPhys_inp (s : State) (v : Memory) : (s.setPhys v).inp = s.inp := rfl
@[simp] theorem State.setPhys_hist (s : State) (v : Memory) : (s.setPhys v).hist = s.hist := rfl
@[simp] theorem State.setPhys_aborted (s : State) (v : Memory) : (s.setPhys v).aborted = s.aborted := rfl
@[simp] theorem State.setPhys_response (s : State) (v : Memory) : (s.setPhys v).response = s.response := rfl
@[simp] theorem State.setPhys_mem (s : State) (v : Memory) : (s.setPhys v).mem = s.mem := rfl
@[simp] theorem State.setPhys_phys (s : State) (v : Memory) : (s.setPhys v).phys = v := rfl
@[simp] theorem State.setPhys_port (s : State) (v : Memory) : (s.setPhys v).port = s.port := rfl
@[simp] theorem State.setPhys_queue (s : State) (v : Memory) : (s.setPhys v).queue = s.queue := rfl
@[simp] theorem State.setPhys_setPhys (s : State) (v w : Memory) : (s.setPhys v).setPhys w = s.setPhys w := rfl
@[simp] theorem State.setPhys_self (s : State) : s.setPhys s.phys = s := rfl

/-! ### `setPort` -/

@[simp] theorem State.setPort_cfg (s : State) (v : List (Option Half)) : (s.setPort v).cfg = s.cfg := rfl
@[simp] theorem State.setPort_regs (s : State) (v : List (Option Half)) : (s.setPort v).regs = s.regs := rfl
@[simp] theorem State.setPort_ctx (s : State) (v : List (Option Half)) : (s.setPort v).ctx = s.ctx := rfl
@[simp] theorem State.setPort_sched (s : State) (v : List (Option Half)) : (s.setPort v).sched = s.sched := rfl
@[simp] theorem State.setPort_exc (s : State) (v : List (Option Half)) : (s.setPort v).exc = s.exc := rfl
@[simp] theorem State.setPort_tpr (s : State) (v : List (Option Half)) : (s.setPort v).tpr = s.tpr := rfl
@[simp] theorem State.setPort_vtpr (s : State) (v : List (Option Half)) : (s.setPort v).vtpr = s.vtpr := rfl
@[simp] theorem State.setPort_inp (s : State) (v : List (Option Half)) : (s.setPort v).inp = s.inp := rfl
@[simp] theorem State.setPort_hist (s : State) (v : List (Option Half)) : (s.setPort v).hist = s.hist := rfl
@[simp] theorem State.setPort_aborted (s : State) (v : List (Option Half)) : (s.setPort v).aborted = s.aborted := rfl
@[simp] theorem State.setPort_response (s : State) (v : List (Option Half)) : (s.setPort v).response = s.response := rfl
@[simp] theorem State.setPort_mem (s : State) (v : List (Option Half)) : (s.setPort v).mem = s.mem := rfl
@[simp] theorem State.setPort_phys (s : State) (v : List (Option Half)) : (s.setPort v).phys = s.phys := rfl
@[simp] theorem State.setPort_port (s : State) (v : List (Option Half)) : (s.setPort v).port = v := rfl
@[simp] theorem State.setPort_queue (s : State) (v : List (Option Half)) : (s.setPort v).queue = s.queue := rfl
@[simp] theorem State.setPort_setPort (s : State) (v w : List (Option Half)) : (s.setPort v).setPort w = s.setPort w := rfl
@[simp] theorem State.setPort_self (s : State) : s.setPort s.port = s := rfl

/-! ### `setQueue` -/

@[simp] theorem State.setQueue_cfg (s : State) (v : List Request) : (s.setQueue v).cfg = s.cfg := rfl
@[simp] theorem State.setQueue_regs (s : State) (v : List Request) : (s.setQueue v).regs = s.regs := rfl
@[simp] theorem State.setQueue_ctx (s : State) (v : List Request) : (s.setQueue v).ctx = s.ctx := rfl
@[simp] theorem State.setQueue_sched (s : State) (v : List Request) : (s.setQueue v).sched = s.sched := rfl
@[simp] theorem State.setQueue_exc (s : State) (v : List Request) : (s.setQueue v).exc = s.exc := rfl
@[simp] theorem State.setQueue_tpr (s : State) (v : List Request) : (s.setQueue v).tpr = s.tpr := rfl
@[simp] theorem State.setQueue_vtpr (s : State) (v : List Request) : (s.setQueue v).vtpr = s.vtpr := rfl
@[simp] theorem State.setQueue_inp (s : State) (v : List Request) : (s.setQueue v).inp = s.inp := rfl
@[simp] theorem State.setQueue_hist (s : State) (v : List Request) : (s.setQueue v).hist = s.hist := rfl
@[simp] theorem State.setQueue_aborted (s : State) (v : List Request) : (s.setQueue v).aborted = s.aborted := rfl
@[simp] theorem State.setQueue_response (s : State) (v : List Request) : (s.setQueue v).response = s.response := rfl
@[simp] theorem State.setQueue_mem (s : State) (v : List Request) : (s.setQueue v).mem = s.mem := rfl
@[simp] theorem State.setQueue_phys (s : State) (v : List Request) : (s.setQueue v).phys = s.phys := rfl
@[simp] theorem State.setQueue_port (s : State) (v : List Request) : (s.setQueue v).port = s.port := rfl
@[simp] theorem State.setQueue_queue (s : State) (v : List Request) : (s.setQueue v).queue = v := rfl
@[simp] theorem State.setQueue_setQueue (s : State) (v w : List Request) : (s.setQueue v).setQueue w = s.setQueue w := rfl
@[simp] theorem State.setQueue_self (s : State) : s.setQueue s.queue = s := rfl

/-! ### `respond` -/

@[simp] theorem State.respond_cfg (s : State) (a : Answer) : (s.respond a).cfg = s.cfg := rfl
@[simp] theorem State.respond_regs (s : State) (a : Answer) : (s.respond a).regs = s.regs := rfl
@[simp] theorem State.respond_ctx (s : State) (a : Answer) : (s.respond a).ctx = s.ctx := rfl
@[simp] theorem State.respond_sched (s : State) (a : Answer) : (s.respond a).sched = s.sched := rfl
@[simp] theorem State.respond_exc (s : State) (a : Answer) : (s.respond a).exc = s.exc := rfl
@[simp] theorem State.respond_tpr (s : State) (a : Answer) : (s.respond a).tpr = s.tpr := rfl
@[simp] theorem State.respond_vtpr (s : State) (a : Answer) : (s.respond a).vtpr = s.vtpr := rfl
@[simp] theorem State.respond_inp (s : State) (a : Answer) : (s.respond a).inp = s.inp := rfl
@[simp] theorem State.respond_hist (s : State) (a : Answer) : (s.respond a).hist = s.hist := rfl
@[simp] theorem State.respond_aborted (s : State) (a : Answer) : (s.respond a).aborted = s.aborted := rfl
@[simp] theorem State.respond_mem (s : State) (a : Answer) : (s.respond a).mem = s.mem := rfl
@[simp] theorem State.respond_phys (s : State) (a : Answer) : (s.respond a).phys = s.phys := rfl
@[simp] theorem State.respond_port (s : State) (a : Answer) : (s.respond a).port = s.port := rfl
@[simp] theorem State.respond_queue (s : State) (a : Answer) : (s.respond a).queue = s.queue := rfl
@[simp] theorem State.respond_response (s : State) (a : Answer) :
    (s.respond a).response = ⟨a.kind ++ 0#20 ++ a.vector, a.res s.hist⟩ := rfl
@[simp] theorem State.respond_respond (s : State) (a b : Answer) : (s.respond a).respond b = s.respond b := rfl

/-! ### `resetState` -/

@[simp] theorem resetState_cfg (s : State) : (resetState s).cfg = s.cfg := rfl
@[simp] theorem resetState_regs (s : State) : (resetState s).regs = ControlRegs.reset := rfl
@[simp] theorem resetState_ctx (s : State) : (resetState s).ctx = Context.reset := rfl
@[simp] theorem resetState_sched (s : State) : (resetState s).sched = Sched.reset := rfl
@[simp] theorem resetState_exc (s : State) : (resetState s).exc = ExcState.reset := rfl
@[simp] theorem resetState_tpr (s : State) : (resetState s).tpr = 0#8 := rfl
@[simp] theorem resetState_vtpr (s : State) : (resetState s).vtpr = s.vtpr := rfl
@[simp] theorem resetState_inp (s : State) : (resetState s).inp = resetInputs s.inp := rfl
@[simp] theorem resetState_hist (s : State) : (resetState s).hist = s.hist := rfl
@[simp] theorem resetState_aborted (s : State) : (resetState s).aborted = false := rfl
@[simp] theorem resetState_response (s : State) : (resetState s).response = s.response := rfl
@[simp] theorem resetState_mem (s : State) : (resetState s).mem = s.mem := rfl
@[simp] theorem resetState_phys (s : State) : (resetState s).phys = s.phys := rfl
@[simp] theorem resetState_port (s : State) : (resetState s).port = s.port := rfl
@[simp] theorem resetState_queue (s : State) : (resetState s).queue = s.queue := rfl

end Sys2Proof.Machine
end

