-- ==== Sys2Proof/Laws/Monad.lean ====
section
/-! SUPPORT. How a running command evaluates: each primitive of `M` applied to a state. Tagged for `simp`, so that a proof
about a command runs it instead of unfolding the monad. -/

namespace Sys2Proof.Machine

variable {α β : Type}

@[simp] theorem run_pure (a : α) (s : State) : (pure a : M α) s = .ok a s := rfl

@[simp] theorem run_bind (m : M α) (f : α → M β) (s : State) :
    (m >>= f) s = (match m s with | .ok a s' => f a s' | .error e s' => .error e s') := by
  show EStateM.bind m f s = _
  unfold EStateM.bind
  cases m s <;> rfl

@[simp] theorem run_map (g : α → β) (m : M α) (s : State) :
    (g <$> m) s = (match m s with | .ok a s' => .ok (g a) s' | .error e s' => .error e s') := by
  show EStateM.map g m s = _
  unfold EStateM.map
  cases m s <;> rfl

/-- A bind whose first part ends normally. -/
theorem run_bind_ok {m : M α} {f : α → M β} {s s' : State} {a : α} (e : m s = .ok a s') : (m >>= f) s = f a s' := by
  rw [run_bind, e]

@[simp] theorem run_get (s : State) : (get : M State) s = .ok s s := rfl

@[simp] theorem run_modify (f : State → State) (s : State) : (modify f : M PUnit) s = .ok ⟨⟩ (f s) := rfl

@[simp] theorem run_modifyGet (f : State → α × State) (s : State) :
    (modifyGet f : M α) s = .ok (f s).1 (f s).2 := rfl

@[simp] theorem run_throw (e : Stop) (s : State) : (throw e : M α) s = .error e s := rfl

@[simp] theorem run_raise (v : Vector8) (ec : Half) (s : State) : (raise v ec : M α) s = .error (.raise v ec) s := rfl

@[simp] theorem run_finish (a : Answer) (s : State) : (finish a : M α) s = .error (.done a) s := rfl

theorem run_ite (c : Prop) [Decidable c] (m n : M α) (s : State) :
    (if c then m else n) s = if c then m s else n s := by split <;> rfl

/-- Everything `raiseIf` can do. -/
theorem run_raiseIf (c : Bool) (v : Vector8) (ec : Half) (s : State) :
    raiseIf c v ec s = if c then .error (.raise v ec) s else .ok () s := by cases c <;> rfl

@[simp] theorem run_raiseIf_true (v : Vector8) (ec : Half) (s : State) :
    raiseIf true v ec s = .error (.raise v ec) s := rfl

@[simp] theorem run_raiseIf_false (v : Vector8) (ec : Half) (s : State) : raiseIf false v ec s = .ok () s := rfl

@[simp] theorem run_emit (e : Event) (s : State) : emit e s = .ok () (s.setHist (s.hist ++ [e])) := rfl

@[simp] theorem run_modifyRegs (f : ControlRegs → ControlRegs) (s : State) :
    modifyRegs f s = .ok () (s.setRegs (f s.regs)) := rfl

@[simp] theorem run_modifyCtx (f : Context → Context) (s : State) :
    modifyCtx f s = .ok () (s.setCtx (f s.ctx)) := rfl

@[simp] theorem run_modifySched (f : Sched → Sched) (s : State) :
    modifySched f s = .ok () (s.setSched (f s.sched)) := rfl

@[simp] theorem run_modifyExc (f : ExcState → ExcState) (s : State) :
    modifyExc f s = .ok () (s.setExc (f s.exc)) := rfl

@[simp] theorem run_abort (r : AbortReason) (s : State) : (abort r : M α) s = .error (.done .abort) (s.abortedBy r) := rfl

@[simp] theorem run_abortIf_true (r : AbortReason) (s : State) :
    abortIf true r s = .error (.done .abort) (s.abortedBy r) := rfl

@[simp] theorem run_abortIf_false (r : AbortReason) (s : State) : abortIf false r s = .ok () s := rfl

@[simp] theorem run_vmExit (i : ExitInfo) (s : State) : (vmExit i : M α) s = .error (.done .vmexit) (s.exited i) := rfl

@[simp] theorem run_emitMode (s : State) : emitMode s = .ok () (s.setHist (s.hist ++ [.modeChange s.mode])) := rfl

/-- `onRaise` where the command ends normally. -/
theorem run_onRaise_ok {m : M α} {k : α → M β} {h : Vector8 → Half → M β} {s s' : State} {a : α}
    (e : m s = .ok a s') : onRaise m k h s = k a s' := by simp [onRaise, e]

/-- `onRaise` where the command raises. -/
theorem run_onRaise_raise {m : M α} {k : α → M β} {h : Vector8 → Half → M β} {s s' : State} {v : Vector8} {ec : Half}
    (e : m s = .error (.raise v ec) s') : onRaise m k h s = h v ec s' := by simp [onRaise, e]

/-- `onRaise` where the command ends with an outcome. -/
theorem run_onRaise_done {m : M α} {k : α → M β} {h : Vector8 → Half → M β} {s s' : State} {a : Answer}
    (e : m s = .error (.done a) s') : onRaise m k h s = .error (.done a) s' := by simp [onRaise, e]

/-! ### `runCommand` (R8, R61) -/

theorem runCommand_aborted {m : M Answer} {s : State} (h : s.aborted = true) :
    runCommand m s = .next (s.respond .abort) := by simp [runCommand, h]

theorem runCommand_ok {m : M Answer} {s s' : State} {a : Answer} (h : s.aborted = false) (e : m s = .ok a s') :
    runCommand m s = .next (s'.respond a) := by simp [runCommand, h, run_onRaise_ok e]

theorem runCommand_done {m : M Answer} {s s' : State} {a : Answer} (h : s.aborted = false)
    (e : m s = .error (.done a) s') : runCommand m s = .next (s'.respond a) := by
  simp [runCommand, h, run_onRaise_done e]

/-- What an `M Answer` gives at the port. -/
def outcomeOf : EStateM.Result Stop State Answer → Host.Outcome State Fault Refusal
  | .ok a s' => .next (s'.respond a)
  | .error (.done a) s' => .next (s'.respond a)
  | .error (.refuse r) _ => .refused r
  | .error (.raise _ _) _ => .fault .deliveryDepth
  | .error .depth _ => .fault .deliveryDepth

theorem runCommand_raise {m : M Answer} {s s' : State} {v : Vector8} {ec : Half} (h : s.aborted = false)
    (e : m s = .error (.raise v ec) s') : runCommand m s = outcomeOf (exception maxExceptions v ec s') := by
  simp only [runCommand, h, run_onRaise_raise e, outcomeOf]
  rfl

theorem runCommand_eq {m : M Answer} {s : State} (h : s.aborted = false) :
    runCommand m s = outcomeOf (onRaise m pure (exception maxExceptions) s) := by
  simp only [runCommand, h, outcomeOf]
  rfl

/-! ### The same in the terms of the claims -/

theorem runCommand_eq_doneIn {m : M Answer} {s s' : State} {a : Answer} (h : s.aborted = false) (e : m s = .ok a s') :
    runCommand m s = doneIn a s' := runCommand_ok h e

theorem runCommand_eq_doneIn_of_done {m : M Answer} {s s' : State} {a : Answer} (h : s.aborted = false)
    (e : m s = .error (.done a) s') : runCommand m s = doneIn a s' := runCommand_done h e

/-- `raisedIn` in a live state. -/
theorem raisedIn_eq {v : Vector8} {ec : Half} {s : State} (h : s.aborted = false) (hv : v ≠ 14#8) :
    raisedIn v ec s = outcomeOf (exception maxExceptions v ec s) := by
  refine runCommand_raise (m := raiseCommand v ec 0#64) h ?_
  unfold raiseCommand recordFaultAddr
  rw [if_neg (by simpa using hv)]
  rfl

theorem runCommand_eq_raisedIn {m : M Answer} {s s' : State} {v : Vector8} {ec : Half} (h : s.aborted = false)
    (h' : s'.aborted = false) (hv : v ≠ 14#8) (e : m s = .error (.raise v ec) s') :
    runCommand m s = raisedIn v ec s' := by
  rw [runCommand_raise h e, raisedIn_eq h' hv]

/-- A command that raises before it changes anything, whether or not the machine is live. -/
theorem runCommand_eq_raisedIn_same {m : M Answer} {s : State} {v : Vector8} {ec : Half} (hv : v ≠ 14#8)
    (e : m s = .error (.raise v ec) s) : runCommand m s = raisedIn v ec s := by
  cases h : s.aborted
  · exact runCommand_eq_raisedIn h h hv e
  · rw [runCommand_aborted h]
    exact (runCommand_aborted (m := raiseCommand v ec 0#64) h).symm

end Sys2Proof.Machine
end

