-- ==== Sys2Proof/Laws/Stack.lean ====
section
/-! SUPPORT. The arithmetic of stack pointers and the accesses of the memory port that are answered `ok`: what each
leaves, said once. -/

namespace Sys2Proof.Machine

/-! ### Stack-pointer arithmetic (R295) -/

/-- The width of a stack pointer. -/
def spBits (w : Bool) : Nat := if w then 32 else 16

theorem toNat_wrapSp (w : Bool) (x : Word) : (wrapSp w x).toNat = x.toNat % 2 ^ spBits w := by
  cases w
  · exact (BitVec.toNat_and x 0xFFFF#64).trans (Nat.and_two_pow_sub_one_eq_mod x.toNat 16)
  · exact (BitVec.toNat_and x 0xFFFFFFFF#64).trans (Nat.and_two_pow_sub_one_eq_mod x.toNat 32)

theorem wrapSp_eq_iff (w : Bool) (x y : Word) :
    wrapSp w x = wrapSp w y ↔ x.toNat % 2 ^ spBits w = y.toNat % 2 ^ spBits w := by
  rw [← BitVec.toNat_inj, toNat_wrapSp, toNat_wrapSp]

@[simp] theorem wrapSp_wrapSp (w : Bool) (x : Word) : wrapSp w (wrapSp w x) = wrapSp w x := by
  rw [wrapSp_eq_iff, toNat_wrapSp, Nat.mod_mod]

theorem wrapSp_sub (w : Bool) (x y z : Word) (h : wrapSp w x = wrapSp w y) : wrapSp w (x - z) = wrapSp w (y - z) := by
  rw [wrapSp_eq_iff] at *
  rw [BitVec.toNat_sub, BitVec.toNat_sub]
  have hz := z.isLt
  cases w <;> simp only [spBits, if_true, Bool.false_eq_true, if_false] at * <;> omega

@[simp] theorem wrapSp_mergeSp (w : Bool) (r t : Word) : wrapSp w (mergeSp w r t) = wrapSp w t := by
  cases w <;>
  · simp only [wrapSp, mergeSp, clearBits, Bool.false_eq_true, if_false, if_true]
    ext i hi
    simp only [BitVec.getElem_and, BitVec.getElem_or, BitVec.getElem_not]
    cases (r[i]) <;> cases (t[i]) <;> simp

@[simp] theorem mergeSp_mergeSp (w : Bool) (r t u : Word) : mergeSp w (mergeSp w r (wrapSp w t)) u = mergeSp w r u := by
  cases w <;>
  · simp only [wrapSp, mergeSp, clearBits, Bool.false_eq_true, if_false, if_true]
    ext i hi
    simp only [BitVec.getElem_and, BitVec.getElem_or, BitVec.getElem_not]
    cases (r[i]) <;> cases (t[i]) <;> cases (u[i]) <;> simp

/-- The next entry of a frame, from a pointer already wrapped. -/
theorem wrapSp_step (w : Bool) (x : Word) (n k : Nat) :
    wrapSp w (wrapSp w (x - BitVec.ofNat 64 (n * k)) - BitVec.ofNat 64 n)
      = wrapSp w (x - BitVec.ofNat 64 (n * (k + 1))) := by
  rw [wrapSp_sub w _ (x - BitVec.ofNat 64 (n * k)) _ (wrapSp_wrapSp w _)]
  congr 1
  rw [Nat.mul_add, Nat.mul_one, BitVec.ofNat_add, BitVec.sub_sub]

theorem truncBytes_eight (x : Word) : truncBytes 8 x = x := BitVec.and_allOnes

/-! ### The memory port (R72, R73) -/

/-- The paging service answers `ok` for as long as the listed answers are `ok`. -/
theorem State.portOk.head {s : State} (h : s.portOk) : s.port.head?.join = none := by
  unfold State.portOk at h
  cases e : s.port with
  | nil => rfl
  | cons a rest => rw [e] at h; have := h a (by simp); subst this; rfl

theorem State.portOk_of_tail {s t : State} (h : s.portOk) (e : t.port = s.port.tail) : t.portOk := by
  intro a ha
  rw [e] at ha
  exact h a (List.mem_of_mem_tail ha)

theorem State.portOk_of_drop {s t : State} {n : Nat} (h : s.portOk) (e : t.port = s.port.drop n) : t.portOk := by
  intro a ha
  rw [e] at ha
  exact h a (List.mem_of_mem_drop ha)

theorem run_portAccess_ok {s : State} (h : s.portOk) (a : Word) : portAccess a s = .ok () (s.setPort s.port.tail) := by
  unfold portAccess portAnswer
  rw [run_bind, run_modifyGet]
  simp only [h.head]
  rfl

theorem run_memRead_ok {s : State} (h : s.portOk) (a : Word) (n : Nat) (acc : Acc) :
    memRead a n acc s = .ok (s.mem.readLE a n) (s.accessed [.memR a n acc]) := by
  unfold memRead
  have h' : (s.setHist (s.hist ++ [.memR a n acc])).portOk := h
  simp only [run_bind, run_emit, run_portAccess_ok h', run_get, run_pure, State.setPort_mem, State.setHist_mem]
  simp [State.accessed]

theorem run_memWrite_ok {s : State} (h : s.portOk) (a : Word) (n : Nat) (v : Word) (acc : Acc) :
    memWrite a n v acc s = .ok () ((s.accessed [.memW a n v acc]).setMem (s.mem.writeLE a n v)) := by
  unfold memWrite
  simp only [run_bind, run_portAccess_ok h, run_modify, run_emit]
  simp [State.accessed, State.setPort, State.setHist, State.setMem]

theorem State.accessed_accessed (s : State) (l l' : List Event) : (s.accessed l).accessed l' = s.accessed (l ++ l') := by
  simp [State.accessed, State.setHist, State.setPort, List.drop_drop]

theorem State.portOk.accessed {s : State} (h : s.portOk) (l : List Event) : (s.accessed l).portOk :=
  State.portOk_of_drop h rfl

/-! ### Frames -/

theorem frameHist_length (addr : Nat → Word) (n : Nat) (acc : Acc) (xs : List Word) (k : Nat) :
    (frameHist addr n acc xs k).length = xs.length := by
  induction xs generalizing k with
  | nil => rfl
  | cons x xs ih => simp [frameHist, ih]

/-- The frame depends on the addresses of its own entries alone. -/
theorem frameMem_congr {addr addr' : Nat → Word} (n : Nat) (xs : List Word) (k : Nat) (m : Memory)
    (h : ∀ i, k ≤ i → i < k + xs.length → addr i = addr' i) : frameMem addr n xs k m = frameMem addr' n xs k m := by
  induction xs generalizing k m with
  | nil => rfl
  | cons x xs ih =>
    simp only [List.length_cons] at h
    simp only [frameMem]
    rw [h k (Nat.le_refl _) (by omega), ih _ _ fun i hi hj => h i (by omega) (by omega)]

theorem wf_frameMem (addr : Nat → Word) (n : Nat) (xs : List Word) (k : Nat) {m : Memory} (h : m.wf = true) :
    (frameMem addr n xs k m).wf = true := by
  induction xs generalizing k m with
  | nil => exact h
  | cons x xs ih => exact ih _ (Memory.wf_writeLE h _ _ _)

/-- A frame leaves every byte outside its entries as it was. -/
theorem get_frameMem_other (addr : Nat → Word) (n : Nat) (xs : List Word) (k : Nat) {m : Memory} (h : m.wf = true)
    (x : Nat) (hx : ∀ i j, k ≤ i → i < k + xs.length → j < n → x ≠ (addr i + BitVec.ofNat 64 j).toNat) :
    (frameMem addr n xs k m).get x = m.get x := by
  induction xs generalizing k m with
  | nil => rfl
  | cons y xs ih =>
    simp only [List.length_cons] at hx
    rw [frameMem, ih (k + 1) (Memory.wf_writeLE h _ _ _) fun i j hi hj => hx i j (by omega) (by omega)]
    exact Memory.get_writeLE_other h _ _ _ _ fun j hj => hx k j (Nat.le_refl _) (by omega) hj

theorem State.framed_nil (s : State) (addr : Nat → Word) (n : Nat) (acc : Acc) (k : Nat) :
    s.framed addr n acc [] k = s := by
  simp [State.framed, frameHist, frameMem, State.accessed]

theorem State.framed_cons (s : State) (addr : Nat → Word) (n : Nat) (acc : Acc) (x : Word) (xs : List Word) (k : Nat) :
    s.framed addr n acc (x :: xs) k = (s.framed addr n acc [x] k).framed addr n acc xs (k + 1) := by
  simp [State.framed, frameHist, frameMem, State.accessed, State.setMem, State.setHist, State.setPort,
    Nat.add_comm]

end Sys2Proof.Machine
end

