-- ==== Sys2Proof/Laws/Delivery.lean ====
section
/-! SUPPORT. The delivery operations where they complete: what each leaves, from the stack primitives up to `deliver`. -/

namespace Sys2Proof.Machine

/-! ### Pushing on the current stack (R295) -/

theorem checkStack_ok {d : Desc} {off : Word} {n : Nat} {e : Half} {s : State} (h : stackOk d off n = true) :
    checkStack d off n e s = .ok () s := by
  unfold checkStack
  rw [h]
  rfl

/-- The state after one more entry: the `k`-th of the frame whose first entry was pushed in context `c`. -/
def State.pushed (s : State) (c : Context) (n : Nat) (x : Word) (k : Nat) : State :=
  (s.framed (slotAddr c n) n (.stack c.cpl) [x] k).setCtx { s.ctx with rsp := mergeSp c.ss.cache.db c.rsp (slotOff c n k) }

/-- The stack pointer of `c` after `k` entries of `n` bytes were pushed. -/
def SpAt (c : Context) (n k : Nat) (c' : Context) : Prop :=
  c' = { c with rsp := if k = 0 then c.rsp else mergeSp c.ss.cache.db c.rsp (slotOff c n k) }

theorem spAt_step {c c' : Context} {n k : Nat} (h : SpAt c n k c') :
    wrapSp c'.ss.cache.db (c'.rsp - BitVec.ofNat 64 n) = slotOff c n (k + 1) := by
  subst h
  by_cases hk : k = 0
  · subst hk
    simp [slotOff]
  · simp only [hk, if_false, slotOff]
    have := wrapSp_step c.ss.cache.db c.rsp n k
    rw [← this]
    exact wrapSp_sub _ _ _ _ (by rw [wrapSp_mergeSp])

theorem spAt_merge {c c' : Context} {n k : Nat} (h : SpAt c n k c') (t : Word) :
    mergeSp c.ss.cache.db c'.rsp t = mergeSp c.ss.cache.db c.rsp t := by
  subst h
  by_cases hk : k = 0
  · simp [hk]
  · simp only [hk, if_false, slotOff, mergeSp_mergeSp]

theorem run_push_ok {s : State} {c : Context} {n k : Nat} (x : Word) (hc : SpAt c n k s.ctx) (hp : s.portOk)
    (hs : stackOk c.ss.cache (slotOff c n (k + 1)) n = true) :
    push n x s = .ok () (s.pushed c n x (k + 1)) := by
  have hss : s.ctx.ss = c.ss := by rw [hc]
  have hcpl : s.ctx.cpl = c.cpl := by rw [hc]
  have hstep := spAt_step hc
  unfold push
  rw [run_bind, run_get]
  simp only [hstep]
  rw [run_bind, checkStack_ok (by rw [hss]; exact hs)]
  simp only
  rw [run_bind, run_memWrite_ok hp]
  simp only [run_modifyCtx, State.accessed, State.setMem_ctx, State.setPort_ctx, State.setHist_ctx]
  rw [hss, hcpl, spAt_merge hc]
  have hc' : s.ctx = _ := hc
  simp only [State.pushed]
  rw [hc']
  rfl

theorem spAt_pushed {s : State} {c : Context} {n k : Nat} {x : Word} (hc : SpAt c n k s.ctx) :
    SpAt c n (k + 1) (s.pushed c n x (k + 1)).ctx := by
  have hc' : s.ctx = _ := hc
  simp only [SpAt, State.pushed, State.setCtx_ctx]
  rw [hc']
  simp

theorem portOk_pushed {s : State} {c : Context} {n k : Nat} {x : Word} (hp : s.portOk) : (s.pushed c n x k).portOk :=
  State.portOk_of_drop (n := 1) hp rfl

/-- The state after all entries of a frame were pushed from context `c`. -/
def State.pushedAll (s : State) (c : Context) (n : Nat) : List Word → Nat → State
  | [], _ => s
  | x :: xs, k => (s.pushed c n x k).pushedAll c n xs (k + 1)

/-- Memory, history and context after a frame was pushed. -/
theorem State.pushedAll_eq (s : State) (c : Context) (n k : Nat) (xs : List Word) (hk : 0 < k) (hx : xs ≠ []) :
    s.pushedAll c n xs k
      = (s.framed (slotAddr c n) n (.stack c.cpl) xs k).setCtx
          { s.ctx with rsp := mergeSp c.ss.cache.db c.rsp (slotOff c n (k + xs.length - 1)) } := by
  induction xs generalizing s k with
  | nil => exact absurd rfl hx
  | cons x xs ih =>
    cases xs with
    | nil => rfl
    | cons y ys =>
      rw [State.pushedAll, ih _ (k + 1) (by omega) (by simp), State.framed_cons s]
      simp only [List.length_cons]
      rw [show k + 1 + (ys.length + 1) - 1 = k + (ys.length + 1 + 1) - 1 by omega]
      rfl

/-! ### Frames on a new stack -/

theorem run_pushInner_ok {d : Desc} {e : Half} {n : Nat} {pl : BitVec 2} (sp : Word) (xs : List Word) (k : Nat) (s : State)
    (hp : s.portOk)
    (hs : ∀ i, k < i → i ≤ k + xs.length → stackOk d (wrapSp d.db (sp - BitVec.ofNat 64 (n * i))) n = true) :
    pushInner d e n pl xs (wrapSp d.db (sp - BitVec.ofNat 64 (n * k))) s
      = .ok (wrapSp d.db (sp - BitVec.ofNat 64 (n * (k + xs.length))))
          (s.framed (fun i => legacyAddr d.base (wrapSp d.db (sp - BitVec.ofNat 64 (n * i)))) n (.stack pl) xs (k + 1)) := by
  induction xs generalizing k s with
  | nil => rw [State.framed_nil]; rfl
  | cons x xs ih =>
    simp only [List.length_cons] at hs ⊢
    unfold pushInner
    simp only [wrapSp_step]
    rw [run_bind, checkStack_ok (hs (k + 1) (by omega) (by omega))]
    simp only
    rw [run_bind, run_memWrite_ok hp]
    simp only
    rw [ih (k + 1) _ (State.portOk_of_drop (n := 1) hp rfl) fun i hi hj => hs i (by omega) (by omega), State.framed_cons]
    rw [show k + 1 + xs.length = k + (xs.length + 1) by omega]
    rfl

theorem run_pushLong_ok {pl : BitVec 2} (sp : Word) (xs : List Word) (k : Nat) (s : State) (hp : s.portOk)
    (hs : ∀ i, k < i → i ≤ k + xs.length → canonical (sp - BitVec.ofNat 64 (8 * i)) = true) :
    pushLong pl xs (sp - BitVec.ofNat 64 (8 * k)) s
      = .ok (sp - BitVec.ofNat 64 (8 * (k + xs.length)))
          (s.framed (fun i => sp - BitVec.ofNat 64 (8 * i)) 8 (.stack pl) xs (k + 1)) := by
  induction xs generalizing k s with
  | nil => rw [State.framed_nil]; rfl
  | cons x xs ih =>
    simp only [List.length_cons] at hs ⊢
    have step : sp - BitVec.ofNat 64 (8 * k) - 8#64 = sp - BitVec.ofNat 64 (8 * (k + 1)) := by
      rw [Nat.mul_add, Nat.mul_one, BitVec.ofNat_add, BitVec.sub_sub]
    unfold pushLong
    simp only [step]
    rw [run_bind, hs (k + 1) (by omega) (by omega)]
    simp only [Bool.not_true, run_raiseIf_false]
    rw [run_bind, run_memWrite_ok hp]
    simp only
    rw [ih (k + 1) _ (State.portOk_of_drop (n := 1) hp rfl) fun i hi hj => hs i (by omega) (by omega), State.framed_cons]
    rw [show k + 1 + xs.length = k + (xs.length + 1) by omega]
    simp only [State.framed, frameHist, frameMem, truncBytes_eight]

theorem spAt_zero (c : Context) (n : Nat) : SpAt c n 0 c := rfl

/-! ### The real-mode routine (R297) -/

theorem decide_lt_false {a b : Nat} (h : b ≤ a) : decide (a < b) = false := by
  simp only [decide_eq_false_iff_not]; omega

theorem run_realModeInt_ok {s : State} {v : Vector8} (h : RealReady s v) :
    realModeInt v s
      = .ok () (((s.pushedAll s.ctx 2 (realFrame s.ctx) 1).accessed
            [.memR (ivtAddr s v) 2 .sys, .memR (ivtAddr s v + 2#64) 2 .sys]).setCtx
          { s.ctx with
            rsp := mergeSp s.ctx.ss.cache.db s.ctx.rsp (slotOff s.ctx 2 3)
            cs := ⟨(ivtCs s v).setWidth 16, true, { s.ctx.cs.cache with base := ivtCs s v <<< 4 }⟩
            rip := ivtIp s v
            rflags := flagsAfterReal s.ctx.rflags }) := by
  have haddr : s.ctx.idtr.base + (v.setWidth 64 <<< 2) = ivtAddr s v := by
    unfold ivtAddr
    congr 1
    apply BitVec.eq_of_toNat_eq
    have := v.isLt
    simp only [BitVec.toNat_shiftLeft, BitVec.toNat_setWidth, BitVec.toNat_ofNat, Nat.shiftLeft_eq]
    omega
  have h1 := run_push_ok (x := s.ctx.rflags) (spAt_zero s.ctx 2) h.port (h.stack 1 (by omega) (by omega))
  have c1 := spAt_pushed (x := s.ctx.rflags) (spAt_zero s.ctx 2)
  have p1 := portOk_pushed (c := s.ctx) (n := 2) (k := 1) (x := s.ctx.rflags) h.port
  have h2 := run_push_ok (x := s.ctx.cs.sel.setWidth 64) c1 p1 (h.stack 2 (by omega) (by omega))
  have c2 := spAt_pushed (x := s.ctx.cs.sel.setWidth 64) c1
  have p2 := portOk_pushed (c := s.ctx) (n := 2) (k := 2) (x := s.ctx.cs.sel.setWidth 64) p1
  have h3 := run_push_ok (x := s.ctx.rip) c2 p2 (h.stack 3 (by omega) (by omega))
  have p3 := portOk_pushed (c := s.ctx) (n := 2) (k := 3) (x := s.ctx.rip) p2
  unfold realModeInt
  rw [run_bind, run_get]
  simp only
  rw [run_bind, decide_lt_false h.idt, run_raiseIf_false]
  simp only
  rw [run_bind, h1]
  simp only
  rw [run_bind, h2]
  simp only
  rw [run_bind, h3]
  simp only [haddr]
  have ht : s.pushedAll s.ctx 2 (realFrame s.ctx) 1
      = (((s.pushed s.ctx 2 s.ctx.rflags 1).pushed s.ctx 2 (s.ctx.cs.sel.setWidth 64) 2).pushed s.ctx 2 s.ctx.rip 3) := rfl
  have hm : (s.pushedAll s.ctx 2 (realFrame s.ctx) 1).mem = realMem s := rfl
  have hc : (s.pushedAll s.ctx 2 (realFrame s.ctx) 1).ctx
      = { s.ctx with rsp := mergeSp s.ctx.ss.cache.db s.ctx.rsp (slotOff s.ctx 2 3) } := rfl
  rw [← ht] at p3 ⊢
  generalize s.pushedAll s.ctx 2 (realFrame s.ctx) 1 = t at p3 hm hc ⊢
  have hip : (realMem s).readLE (ivtAddr s v) 2 = ivtIp s v := rfl
  have hcs : (realMem s).readLE (ivtAddr s v + 2#64) 2 = ivtCs s v := rfl
  rw [run_bind, run_memRead_ok p3, hm, hip]
  simp only
  rw [run_bind, decide_lt_false (h.limit), run_raiseIf_false]
  simp only
  rw [run_bind, run_memRead_ok (p3.accessed _)]
  simp only [run_modifyCtx, State.accessed_accessed, List.singleton_append]
  have hm2 : (t.accessed [.memR (ivtAddr s v) 2 .sys]).mem = realMem s := hm
  have hc2 : ∀ l, (t.accessed l).ctx = t.ctx := fun _ => rfl
  rw [hm2, hcs, hc2, hc]
  rfl

/-! ### Descriptors and gates (R320, R323) -/

theorem run_fetchDesc_ok {s : State} {sel : Half} (x : Vector8) (hp : s.portOk) (h : descInTable s.ctx sel) :
    fetchDesc sel x s
      = .ok (s.mem.readLE (descAddr s.ctx sel) 8) (s.accessed [.memR (descAddr s.ctx sel) 8 .sys]) := by
  unfold fetchDesc
  unfold descInTable at h
  unfold descAddr
  by_cases ht : sel.getLsbD 2 = true
  · simp only [ht, if_true] at h ⊢
    unfold fetchLdt
    rw [run_bind, run_get]
    simp only
    rw [run_bind, h.1]
    simp only [Bool.not_true, run_raiseIf_false]
    rw [run_bind, decide_lt_false h.2, run_raiseIf_false]
    simp only
    exact run_memRead_ok hp _ _ _
  · simp only [ht, if_false, Bool.false_eq_true] at h ⊢
    unfold fetchGdt
    rw [run_bind, run_get]
    simp only
    rw [run_bind, decide_lt_false h, run_raiseIf_false]
    simp only
    exact run_memRead_ok hp _ _ _

theorem cetGuard_ok {s : State} (h : s.cfg.cetSupported = false) : cetGuard s = .ok () s := by
  unfold cetGuard
  rw [run_bind, run_get]
  simp [h]

theorem shl3 (v : Vector8) : v.setWidth 64 <<< 3 = BitVec.ofNat 64 (8 * v.toNat) := by
  apply BitVec.eq_of_toNat_eq
  have := v.isLt
  simp only [BitVec.toNat_shiftLeft, BitVec.toNat_setWidth, BitVec.toNat_ofNat, Nat.shiftLeft_eq]
  omega

theorem shl4 (v : Vector8) : v.setWidth 64 <<< 4 = BitVec.ofNat 64 (16 * v.toNat) := by
  apply BitVec.eq_of_toNat_eq
  have := v.isLt
  simp only [BitVec.toNat_shiftLeft, BitVec.toNat_setWidth, BitVec.toNat_ofNat, Nat.shiftLeft_eq]
  omega

theorem soft_lt_false {b : Bool} {d c : BitVec 2} (h : b = true → c ≤ d) : (b && decide (d < c)) = false := by
  cases b
  · rfl
  · have := h rfl
    simp only [Bool.true_and, decide_eq_false_iff_not, BitVec.lt_def, BitVec.le_def] at *
    omega

theorem lt_false {w : Nat} {d c : BitVec w} (h : d ≤ c) : decide (c < d) = false := by
  simp only [decide_eq_false_iff_not, BitVec.lt_def, BitVec.le_def] at *
  omega

/-- The reads a delivery through the gate of `v` makes before the stack is chosen. -/
def gateReads (s : State) (v : Vector8) : List Event :=
  [.memR (idtAddr s v) 8 .sys, .memR (descAddr s.ctx (gateOf s v).selector) 8 .sys]

/-- The protected-mode routine up to the choice of the stack. -/
theorem run_protModeInt_gate {s : State} {v : Vector8} {soft : Bool} (push : Bool) (ec : Half)
    (h : CodePassed s v soft) :
    protModeInt v soft push ec s
      = (match enterLevel (gateOf s v) (codeOf s v) push ec (s.accessed (gateReads s v)) with
          | .ok _ s' => .ok () (s'.setCtx (gateEnter (gateOf s v) s'.ctx))
          | .error e s' => .error e s') := by
  have hg : parseGate (s.mem.readLE (idtAddr s v) 8) = gateOf s v := rfl
  have hc : parseDesc (s.mem.readLE (descAddr s.ctx (gateOf s v).selector) 8) = codeOf s v := rfl
  have hty : ((gateOf s v).s || !isProtGateType (gateOf s v).type) = false := by
    rw [h.system]
    rcases h.type with e | e | e | e <;> simp [isProtGateType, e]
  have h5 : ((gateOf s v).type == 5#4) = false := by
    rcases h.type with e | e | e | e <;> simp [e]
  unfold protModeInt
  rw [run_bind, cetGuard_ok h.noCet]
  simp only
  rw [run_bind, run_get]
  simp only
  rw [run_bind, decide_lt_false h.idt, run_raiseIf_false]
  simp only [shl3]
  rw [run_bind, show s.ctx.idtr.base + BitVec.ofNat 64 (8 * v.toNat) = idtAddr s v from rfl, run_memRead_ok h.port]
  simp only [hg]
  rw [run_bind, hty, run_raiseIf_false]
  simp only
  rw [run_bind, soft_lt_false h.dpl, run_raiseIf_false]
  simp only
  rw [run_bind, h.present, Bool.not_true, run_raiseIf_false]
  simp only [protDispatch, h5, Bool.false_eq_true, if_false]
  generalize hs1 : s.accessed [.memR (idtAddr s v) 8 .sys] = s1
  have p1 : s1.portOk := hs1 ▸ h.port.accessed _
  have c1 : s1.ctx = s.ctx := by rw [← hs1]; rfl
  have m1 : s1.mem = s.mem := by rw [← hs1]; rfl
  unfold protGate
  rw [run_bind, show (selCode (gateOf s v).selector == 0#16) = false by simpa using h.notNull, run_raiseIf_false]
  simp only
  rw [run_bind, run_fetchDesc_ok _ p1 (c1 ▸ h.inTable), c1, m1]
  simp only [hc]
  rw [run_bind, run_get]
  have c2 : ∀ l, (s1.accessed l).ctx = s1.ctx := fun _ => rfl
  simp only [c2, c1]
  rw [run_bind, show (!(codeOf s v).isCode || decide (s.ctx.cpl < (codeOf s v).dpl)) = false by
    rw [Desc.isCode, h.code.1, h.code.2, lt_false h.codeDpl]; rfl, run_raiseIf_false]
  simp only
  rw [run_bind, h.codePresent, Bool.not_true, run_raiseIf_false]
  simp only
  rw [run_bind, ← hs1, State.accessed_accessed]
  simp only [run_modifyCtx, List.singleton_append]
  rw [show [.memR (idtAddr s v) 8 .sys, .memR (descAddr s.ctx (gateOf s v).selector) 8 .sys] = gateReads s v from rfl]
  cases enterLevel (gateOf s v) (codeOf s v) push ec (s.accessed (gateReads s v)) <;> rfl

theorem gateFlags_eq (g : Gate) (f : Word) : flagsAfterGate g.isInterrupt f = gateFlags g f := by
  unfold flagsAfterGate gateFlags Gate.isInterrupt clearBits
  cases g.type.getLsbD 0
  · simp only [Bool.not_false, if_true, Bool.false_eq_true, if_false, BitVec.and_assoc]
    rfl
  · simp only [Bool.not_true, Bool.false_eq_true, if_false, if_true]
    rfl

theorem isInner_false {c : Desc} {pl : BitVec 2} (h : c.type.getLsbD 2 = true ∨ c.dpl = pl) : isInner c pl = false := by
  unfold isInner Desc.conforming
  rcases h with h | h
  · simp [h]
  · subst h; simp

theorem entrySize_eq (g : Gate) : (if decide (14#4 ≤ g.type) = true then 4 else 2) = entrySize g := by
  unfold entrySize
  by_cases h : 14#4 ≤ g.type <;> simp [h]

theorem run_pushErrorCode {s : State} (b : Bool) (n : Nat) (ec : Half) :
    pushErrorCode b n ec s = if b then push n (ec.setWidth 64) s else .ok () s := by cases b <;> rfl

/-- Same-level delivery (R337). -/
theorem run_sameLevelDelivery_ok {s : State} {g : Gate} {c : Desc} {big : Bool} {n : Nat} (push' : Bool) (ec : Half)
    (hn : (if big = true then 4 else 2) = n) (hp : s.portOk) (hv : s.ctx.vm = false)
    (hl : g.offset.toNat ≤ c.limit.toNat) (hs : slotsOk s.ctx n (if push' then 4 else 3)) :
    sameLevelDelivery g c big push' ec s
      = .ok () ((s.pushedAll s.ctx n (sameFrame s.ctx push' ec) 1).setCtx
          { s.ctx with
            rsp := mergeSp s.ctx.ss.cache.db s.ctx.rsp (slotOff s.ctx n (if push' then 4 else 3))
            cs := loadSeg g.selector c s.ctx.cpl }) := by
  have h1 := run_push_ok (x := s.ctx.rflags) (spAt_zero s.ctx n) hp (hs 1 (by omega) (by split <;> omega))
  have c1 := spAt_pushed (x := s.ctx.rflags) (spAt_zero s.ctx n)
  have p1 := portOk_pushed (c := s.ctx) (n := n) (k := 1) (x := s.ctx.rflags) hp
  have h2 := run_push_ok (x := s.ctx.cs.sel.setWidth 64) c1 p1 (hs 2 (by omega) (by split <;> omega))
  have c2 := spAt_pushed (x := s.ctx.cs.sel.setWidth 64) c1
  have p2 := portOk_pushed (c := s.ctx) (n := n) (k := 2) (x := s.ctx.cs.sel.setWidth 64) p1
  have h3 := run_push_ok (x := s.ctx.rip) c2 p2 (hs 3 (by omega) (by split <;> omega))
  have c3 := spAt_pushed (x := s.ctx.rip) c2
  have p3 := portOk_pushed (c := s.ctx) (n := n) (k := 3) (x := s.ctx.rip) p2
  unfold sameLevelDelivery
  rw [run_bind, run_get]
  simp only [hv, hn]
  rw [run_bind, run_raiseIf_false]
  simp only
  rw [run_bind, decide_lt_false hl, run_raiseIf_false]
  simp only
  rw [run_bind, h1]
  simp only
  rw [run_bind, h2]
  simp only
  rw [run_bind, h3]
  simp only
  rw [run_bind, run_pushErrorCode]
  cases push'
  · simp only [Bool.false_eq_true, if_false]
    rfl
  · have h4 := run_push_ok (x := ec.setWidth 64) c3 p3 (hs 4 (by omega) (by simp))
    simp only [if_true]
    rw [h4]
    rfl

/-- The protected-mode routine where it ends in a same-level delivery (R320, R337). -/
theorem run_protModeInt_same {s : State} {v : Vector8} {soft push : Bool} (ec : Half) (h : SameReady s v soft push) :
    protModeInt v soft push ec s
      = .ok () (((s.accessed (gateReads s v)).framed (slotAddr s.ctx (entrySize (gateOf s v))) (entrySize (gateOf s v))
            (.stack s.ctx.cpl) (sameFrame s.ctx push ec) 1).setCtx
          { s.ctx with
            rsp := mergeSp s.ctx.ss.cache.db s.ctx.rsp
              (slotOff s.ctx (entrySize (gateOf s v)) (if push then 4 else 3))
            cs := csAfter (gateOf s v) (codeOf s v) s.ctx.cpl
            rip := (gateOf s v).offset
            rflags := gateFlags (gateOf s v) s.ctx.rflags }) := by
  rw [run_protModeInt_gate push ec h.toCodePassed]
  have p1 : (s.accessed (gateReads s v)).portOk := h.port.accessed _
  have c1 : (s.accessed (gateReads s v)).ctx = s.ctx := rfl
  have hd := run_sameLevelDelivery_ok (s := s.accessed (gateReads s v)) push ec (entrySize_eq (gateOf s v)) p1
    h.notV86 h.limit h.stack
  rw [State.pushedAll_eq _ _ _ _ _ (by omega) (by simp [sameFrame])] at hd
  generalize s.accessed (gateReads s v) = s1 at hd c1 ⊢
  unfold enterLevel
  rw [run_bind, run_get]
  simp only [c1, isInner_false h.level, Bool.false_eq_true, if_false] at hd ⊢
  rw [hd]
  simp only [State.setCtx_ctx, State.setCtx_setCtx, gateEnter, gateFlags_eq]
  rfl

/-! ### Inner delivery (R332) -/

/-- The stack of level `pl` in the TSS (R333). -/
theorem run_tssStack_ok {s : State} {big : Bool} {pl : BitVec 2} (hp : s.portOk) (hv : s.ctx.tr.valid = true)
    (ht : if big then tss32 s else tss16 s)
    (hl : tssOff big pl + (if big then 7 else 3) ≤ s.ctx.tr.cache.limit.toNat) :
    tssStack pl s
      = .ok (newSs s big pl, newSp s big pl)
          (s.accessed [.memR (tssSsAddr s big pl) 2 .sys, .memR (tssAddr s big pl) (tssSize big) .sys]) := by
  unfold tssStack
  rw [run_bind, run_get]
  simp only [hv, Bool.not_true]
  rw [run_bind, run_abortIf_false]
  cases big
  · simp only [Bool.false_eq_true, if_false, tss16] at ht
    simp only [tssOff, Bool.false_eq_true, if_false] at hl
    have h32 : isTss32 s.ctx.tr.cache.type = false := by rcases ht with e | e <;> simp [isTss32, e]
    have h16 : isTss16 s.ctx.tr.cache.type = true := by rcases ht with e | e <;> simp [isTss16, e]
    simp only [h32, h16, Bool.false_eq_true, if_false, if_true]
    unfold tssStack16
    rw [run_bind, run_get]
    simp only
    rw [run_bind, decide_lt_false hl, run_raiseIf_false]
    simp only
    rw [run_bind, run_memRead_ok hp]
    simp only
    rw [run_bind, run_memRead_ok (hp.accessed _)]
    simp only [run_pure, State.accessed_accessed]
    rfl
  · simp only [if_true, tss32] at ht
    simp only [tssOff, if_true] at hl
    have h32 : isTss32 s.ctx.tr.cache.type = true := by rcases ht with e | e <;> simp [isTss32, e]
    simp only [h32, if_true]
    unfold tssStack32
    rw [run_bind, run_get]
    simp only
    rw [run_bind, decide_lt_false hl, run_raiseIf_false]
    simp only
    rw [run_bind, run_memRead_ok hp]
    simp only
    rw [run_bind, run_memRead_ok (hp.accessed _)]
    simp only [run_pure, State.accessed_accessed]
    rfl

/-- The reads an inner delivery makes. -/
def innerReads (s : State) (v : Vector8) (big : Bool) : List Event :=
  [.memR (tssSsAddr s big (codeOf s v).dpl) 2 .sys, .memR (tssAddr s big (codeOf s v).dpl) (tssSize big) .sys,
    .memR (descAddr s.ctx (newSs s big (codeOf s v).dpl)) 8 .sys]

theorem innerEntries_length (c : Context) (push : Bool) (ec ec' : Half) :
    (innerEntries c push ec).length = (innerEntries c push ec').length := by
  unfold innerEntries
  cases push <;> simp

/-- The protected-mode routine where it ends in an inner delivery (R320, R332). -/
theorem run_protModeInt_inner {s : State} {v : Vector8} {soft push big : Bool} (ec : Half)
    (h : InnerReady s v soft push big) :
    protModeInt v soft push ec s
      = .ok () (((s.accessed (gateReads s v ++ innerReads s v big)).framed
            (innerAddr s big (codeOf s v).dpl (entrySize (gateOf s v))) (entrySize (gateOf s v))
            (.stack (codeOf s v).dpl) (innerEntries s.ctx push ec) 1).setCtx
          (gateEnter (gateOf s v) (innerEnter (newSs s big (codeOf s v).dpl) (descOf s (newSs s big (codeOf s v).dpl))
            (codeOf s v).dpl
            (innerOff s big (codeOf s v).dpl (entrySize (gateOf s v)) (innerEntries s.ctx push ec).length)
            { s.ctx with cs := loadSeg (gateOf s v).selector (codeOf s v) (codeOf s v).dpl, cpl := (codeOf s v).dpl }))) := by
  rw [run_protModeInt_gate push ec h.toCodePassed]
  have hin : isInner (codeOf s v) s.ctx.cpl = true := by
    rw [isInner, Desc.conforming, h.conforming, decide_eq_true h.level]
    rfl
  have hst := h.stack
  rw [innerEntries_length s.ctx push 0#16 ec] at hst
  have p1 : (s.accessed (gateReads s v)).portOk := h.port.accessed _
  have c1 : (s.accessed (gateReads s v)).ctx = s.ctx := rfl
  have hts := run_tssStack_ok (s := s.accessed (gateReads s v)) (pl := (codeOf s v).dpl) p1 h.trValid h.trType h.trLimit
  have hss : newSs (s.accessed (gateReads s v)) big (codeOf s v).dpl = newSs s big (codeOf s v).dpl := rfl
  have hsp : newSp (s.accessed (gateReads s v)) big (codeOf s v).dpl = newSp s big (codeOf s v).dpl := rfl
  have ha1 : tssSsAddr (s.accessed (gateReads s v)) big (codeOf s v).dpl = tssSsAddr s big (codeOf s v).dpl := rfl
  have ha2 : tssAddr (s.accessed (gateReads s v)) big (codeOf s v).dpl = tssAddr s big (codeOf s v).dpl := rfl
  rw [hss, hsp, ha1, ha2, State.accessed_accessed] at hts
  generalize hs2 : s.accessed
    (gateReads s v ++ [.memR (tssSsAddr s big (codeOf s v).dpl) 2 .sys,
      .memR (tssAddr s big (codeOf s v).dpl) (tssSize big) .sys]) = s2 at hts
  have p2 : s2.portOk := hs2 ▸ h.port.accessed _
  have c2 : s2.ctx = s.ctx := by rw [← hs2]; rfl
  have m2 : s2.mem = s.mem := by rw [← hs2]; rfl
  generalize s.accessed (gateReads s v) = s1 at hts c1 ⊢
  unfold enterLevel
  rw [run_bind, run_get]
  simp only [c1, hin, if_true]
  unfold innerDelivery
  simp only [entrySize_eq]
  rw [run_bind, hts]
  simp only
  rw [run_bind, run_get]
  simp only [c2]
  rw [run_bind, show (s.ctx.vm && (codeOf s v).dpl != 0#2) = false by
    cases hv : s.ctx.vm
    · rfl
    · simp [h.v86 hv], run_raiseIf_false]
  simp only
  rw [run_bind, show (selCode (newSs s big (codeOf s v).dpl) == 0#16) = false by simpa using h.ssNotNull,
    run_raiseIf_false]
  simp only
  rw [run_bind, run_fetchDesc_ok _ p2 (c2 ▸ h.ssInTable), c2, m2]
  have hd : parseDesc (s.mem.readLE (descAddr s.ctx (newSs s big (codeOf s v).dpl)) 8)
      = descOf s (newSs s big (codeOf s v).dpl) := rfl
  simp only [hd]
  rw [run_bind, show ((newSs s big (codeOf s v).dpl).extractLsb' 0 2 != (codeOf s v).dpl) = false by
    rw [h.ssRpl]; simp, run_raiseIf_false]
  simp only
  rw [run_bind, show ((descOf s (newSs s big (codeOf s v).dpl)).dpl != (codeOf s v).dpl) = false by
    rw [h.ssDpl]; simp, run_raiseIf_false]
  simp only
  rw [run_bind, show (!(descOf s (newSs s big (codeOf s v).dpl)).writableData) = false by
    rw [Desc.writableData, h.ssData.1, h.ssData.2.1, h.ssData.2.2]; rfl, run_raiseIf_false]
  simp only
  rw [run_bind, h.ssPresent, Bool.not_true, run_raiseIf_false]
  simp only
  rw [run_bind, decide_lt_false h.limit, run_raiseIf_false]
  simp only
  have hfr : innerFrame s.ctx push ec = innerEntries s.ctx push ec := rfl
  have h0 : wrapSp (descOf s (newSs s big (codeOf s v).dpl)).db (newSp s big (codeOf s v).dpl)
      = wrapSp (descOf s (newSs s big (codeOf s v).dpl)).db
          (newSp s big (codeOf s v).dpl - BitVec.ofNat 64 (entrySize (gateOf s v) * 0)) := by simp
  rw [run_bind, hfr, h0, run_pushInner_ok _ _ 0 _ (p2.accessed _) fun i hi hj => hst i (by omega) (by omega)]
  simp only [Nat.zero_add]
  rw [run_bind]
  simp only [loadCs, run_modifyCtx, State.setCtx_ctx, State.setCtx_setCtx]
  rw [← hs2, State.accessed_accessed, List.append_assoc]
  rfl

/-! ### Long mode (R355) -/

/-- A stack of the 64-bit TSS (R363). -/
theorem run_tssRsp_ok {s : State} {k : Nat} (hp : s.portOk) (hv : s.ctx.tr.valid = true) (ht : tss32 s)
    (hl : 8 * k + 4 + 7 ≤ s.ctx.tr.cache.limit.toNat) :
    tssRsp k s = .ok (s.mem.readLE (longTssAddr s k) 8) (s.accessed [.memR (longTssAddr s k) 8 .sys]) := by
  have h32 : isTss32 s.ctx.tr.cache.type = true := by rcases ht with e | e <;> simp [isTss32, e]
  unfold tssRsp
  rw [run_bind, run_get]
  simp only [hv, h32, Bool.not_true]
  rw [run_bind, run_abortIf_false]
  simp only
  rw [run_bind, run_abortIf_false]
  simp only
  rw [run_bind, decide_lt_false hl, run_raiseIf_false]
  simp only
  exact run_memRead_ok hp _ _ _

/-- The pointer a long-mode delivery starts from, before it is aligned (R364). -/
def longStart (s : State) (v : Vector8) : Word :=
  match longTssIndex s v with
  | some k => s.mem.readLE (longTssAddr s k) 8
  | none => s.ctx.rsp

theorem run_longStack_ok {s t : State} {v : Vector8} (hp : t.portOk) (hc : t.ctx = s.ctx) (hm : t.mem = s.mem)
    (ht : ∀ k, longTssIndex s v = some k →
      s.ctx.tr.valid = true ∧ tss32 s ∧ 8 * k + 4 + 7 ≤ s.ctx.tr.cache.limit.toNat) :
    longStack (longGateOf s v).ist (longInner s v) (longLevel s v) t
      = .ok (longStart s v) (t.accessed (longReads s v)) := by
  have key : ∀ k, longTssIndex s v = some k →
      tssRsp k t = .ok (longStart s v) (t.accessed (longReads s v)) := by
    intro k hk
    obtain ⟨h1, h2, h3⟩ := ht k hk
    rw [run_tssRsp_ok hp (by rw [hc]; exact h1) (by unfold tss32; rw [hc]; exact h2) (by rw [hc]; exact h3)]
    simp only [longStart, longReads, hk, longTssAddr, hc, hm]
  unfold longStack
  rw [run_bind, run_get]
  by_cases hi : (longGateOf s v).ist = 0#3
  · simp only [hi, bne_self_eq_false, Bool.false_eq_true, if_false]
    by_cases hn : longInner s v = true
    · simp only [hn, if_true]
      have hl : longLevel s v = (longCodeOf s v).dpl := by simp [longLevel, hn]
      rw [hl]
      exact key _ (by simp [longTssIndex, hi, hn])
    · have hx : longTssIndex s v = none := by simp [longTssIndex, hi, hn]
      simp only [hn, Bool.false_eq_true, if_false, run_pure, longStart, longReads, hx, hc]
      simp [State.accessed, ← hc]
  · have hb : ((longGateOf s v).ist != 0#3) = true := by simpa using hi
    simp only [hb, if_true]
    exact key _ (by simp [longTssIndex, hi])

/-- The reads of a long-mode delivery before the stack is chosen. -/
def longGateReads (s : State) (v : Vector8) : List Event :=
  [.memR (longIdtAddr s v) 8 .sys, .memR (longIdtAddr s v + 8#64) 8 .sys,
    .memR (descAddr s.ctx (longGateOf s v).selector) 8 .sys]

theorem longEntries_length (c : Context) (push : Bool) (ec : Half) :
    (longEntries c push ec).length = if push then 6 else 5 := by
  cases push <;> rfl

/-- The long-mode routine where it completes (R355). -/
theorem run_longModeInt_ok {s : State} {v : Vector8} {soft push : Bool} (ec : Half) (h : LongReady s v soft push) :
    longModeInt v soft push ec s
      = .ok () (((s.accessed (longGateReads s v ++ longReads s v)).framed (longSlot s v) 8 (.stack (longLevel s v))
            (longEntries s.ctx push ec) 1).setCtx
          (longEnter (longGateOf s v) (longInner s v) (longLevel s v)
            (longSlot s v (longEntries s.ctx push ec).length)
            { s.ctx with
              cs := loadSeg (longGateOf s v).selector (longCodeOf s v) (longLevel s v)
              cpl := longLevel s v })) := by
  have hst := h.stack
  rw [← longEntries_length s.ctx push ec] at hst
  have hg : parseLongGate (s.mem.readLE (longIdtAddr s v) 8) (longHigh s v) = longGateOf s v := rfl
  have hh : s.mem.readLE (longIdtAddr s v + 8#64) 8 = longHigh s v := rfl
  have hty : ((longGateOf s v).s || !((longGateOf s v).type == 14#4 || (longGateOf s v).type == 15#4)) = false := by
    rw [h.system]
    rcases h.type with e | e <;> simp [e]
  unfold longModeInt
  rw [run_bind, cetGuard_ok h.noCet]
  simp only
  rw [run_bind, run_get]
  simp only
  rw [run_bind, decide_lt_false h.idt, run_raiseIf_false]
  simp only [shl4]
  rw [run_bind, show s.ctx.idtr.base + BitVec.ofNat 64 (16 * v.toNat) = longIdtAddr s v from rfl, run_memRead_ok h.port]
  simp only
  rw [run_bind, run_memRead_ok (h.port.accessed _), State.accessed_accessed]
  have m0 : ∀ l, (s.accessed l).mem = s.mem := fun _ => rfl
  simp only [m0, hh, hg]
  rw [run_bind, show ((longHigh s v).extractLsb' 40 5 != 0#5) = false by rw [h.high]; rfl, run_raiseIf_false]
  simp only
  rw [run_bind, hty, run_raiseIf_false]
  simp only
  rw [run_bind, soft_lt_false h.dpl, run_raiseIf_false]
  simp only
  rw [run_bind, h.present, Bool.not_true, run_raiseIf_false]
  simp only
  generalize hs1 : s.accessed ([.memR (longIdtAddr s v) 8 .sys] ++ [.memR (longIdtAddr s v + 8#64) 8 .sys]) = s1
  have p1 : s1.portOk := hs1 ▸ h.port.accessed _
  have c1 : s1.ctx = s.ctx := by rw [← hs1]; rfl
  have m1 : s1.mem = s.mem := by rw [← hs1]; rfl
  unfold longGate
  rw [run_bind, show (selCode (longGateOf s v).selector == 0#16) = false by simpa using h.notNull, run_raiseIf_false]
  simp only
  rw [run_bind, run_fetchDesc_ok _ p1 (c1 ▸ h.inTable), c1, m1]
  have hc : parseDesc (s.mem.readLE (descAddr s.ctx (longGateOf s v).selector) 8) = longCodeOf s v := rfl
  simp only [hc]
  rw [run_bind, run_get]
  generalize hs2 : s1.accessed [.memR (descAddr s.ctx (longGateOf s v).selector) 8 .sys] = s2
  have p2 : s2.portOk := hs2 ▸ p1.accessed _
  have c2 : s2.ctx = s.ctx := by rw [← hs2]; exact c1
  have m2 : s2.mem = s.mem := by rw [← hs2]; exact m1
  simp only [c2]
  rw [run_bind, show (!(longCodeOf s v).isCode || decide (s.ctx.cpl < (longCodeOf s v).dpl)) = false by
    rw [Desc.isCode, h.code.1, h.code.2, lt_false h.codeDpl]; rfl, run_raiseIf_false]
  simp only
  rw [run_bind, show (!(longCodeOf s v).l || (longCodeOf s v).db) = false by rw [h.code64.1, h.code64.2]; rfl,
    run_raiseIf_false]
  simp only
  rw [run_bind, h.codePresent, Bool.not_true, run_raiseIf_false]
  have hi : isInner (longCodeOf s v) s.ctx.cpl = longInner s v := rfl
  have hl : (if longInner s v = true then (longCodeOf s v).dpl else s.ctx.cpl) = longLevel s v := rfl
  simp only [hi, hl]
  rw [run_bind, run_longStack_ok p2 c2 m2 h.tss]
  have ht : clearBits (longStart s v) 0xF#64 = longTop s v := by
    unfold longStart longTop clearBits
    cases longTssIndex s v <;> rfl
  simp only [ht]
  have h0 : longTop s v = longTop s v - BitVec.ofNat 64 (8 * 0) := by simp
  have hfr : longFrame s.ctx push ec = longEntries s.ctx push ec := rfl
  rw [run_bind, hfr, h0, run_pushLong_ok _ _ 0 _ (p2.accessed _) fun i hi hj => hst i (by omega) (by omega)]
  simp only [Nat.zero_add]
  rw [run_bind, h.offset, Bool.not_true, run_raiseIf_false]
  simp only
  rw [run_bind]
  simp only [loadCs, run_modifyCtx, State.setCtx_ctx, State.setCtx_setCtx]
  have c3 : ∀ l a n acc xs k, ((s2.accessed l).framed a n acc xs k).ctx = s2.ctx := fun _ _ _ _ _ _ => rfl
  rw [c3, c2, ← hs2, ← hs1, State.accessed_accessed, State.accessed_accessed]
  simp only [List.append_assoc]
  rfl

/-! ### `Deliver` (R292) -/

/-- The end of a delivery, after its mode routine (R292). -/
def State.deliveryEnd (v : Vector8) (type : BitVec 3) (t : State) : State :=
  (t.setExc { t.exc with inEvent := false, extBit := false, prevRip := t.ctx.rip }).setHist (t.hist ++ [.delivered v type])

theorem run_deliver_ok {s t : State} {v : Vector8} {type : BitVec 3} {push : Bool} {ec : Half}
    (h : modeInt v (isSoft type) push ec (longStartState s) = .ok () t) :
    deliver v type push ec s = .ok () (t.deliveryEnd v type) := by
  unfold deliver
  refine (run_bind_ok (run_modifySched _ _)).trans ((run_bind_ok (run_modifyExc _ _)).trans ?_)
  exact (run_bind_ok h).trans rfl

theorem run_modeInt_long {s t : State} {v : Vector8} {soft push : Bool} {ec : Half} (hl : s.regs.lma = true)
    (h : longModeInt v soft push ec (longStartState s) = .ok () t) :
    modeInt v soft push ec (longStartState s) = .ok () t := by
  unfold modeInt
  refine (run_bind_ok (run_get _)).trans ?_
  simp only [show (longStartState s).regs.lma = true from hl, if_true]
  exact h

theorem run_modeInt_legacy {s t : State} {v : Vector8} {soft push : Bool} {ec : Half} (hl : s.regs.lma = false)
    (h : legacyInt v soft push ec (legacyStart s) = .ok () t) :
    modeInt v soft push ec (longStartState s) = .ok () (t.setExc { t.exc with specRsp := false }) := by
  unfold modeInt
  refine (run_bind_ok (run_get _)).trans ?_
  simp only [show (longStartState s).regs.lma = false from hl, Bool.false_eq_true, if_false]
  unfold legacyDelivery
  exact (run_bind_ok (run_modify _ _)).trans ((run_bind_ok h).trans rfl)

theorem run_legacyInt {s : State} {v : Vector8} {soft push : Bool} {ec : Half} :
    legacyInt v soft push ec s = if s.regs.pe then protModeInt v soft push ec s else realModeInt v s := by
  unfold legacyInt
  refine (run_bind_ok (run_get _)).trans ?_
  exact run_ite _ _ _ _

/-! ### What a delivery that completes leaves -/

/-- The end of a legacy delivery whose routine made the accesses `pre`, stored a frame and made the accesses `post`. -/
theorem legacyEnd_eq (s : State) (v : Vector8) (type : BitVec 3) (pre post : List Event) (a : Nat → Word) (n : Nat)
    (acc : Acc) (xs : List Word) (k : Nat) (c : Context) :
    State.deliveryEnd v type
        (((((((legacyStart s).accessed pre).framed a n acc xs k).accessed post).setCtx c).setExc
          { ((((((legacyStart s).accessed pre).framed a n acc xs k).accessed post).setCtx c).exc) with specRsp := false }))
      = deliveredWith s v type (pre ++ frameHist a n acc xs k ++ post) c (frameMem a n xs k s.mem) (legacySnapshot s) := by
  simp [State.deliveryEnd, deliveredWith, State.accessed, State.framed, State.setHist, State.setPort, State.setMem,
    State.setCtx, State.setExc, legacyStart, State.setSched, legacySnapshot, frameHist_length, Nat.add_assoc]

/-- The end of a long-mode delivery. -/
theorem longEnd_eq (s : State) (v : Vector8) (type : BitVec 3) (pre : List Event) (a : Nat → Word) (n : Nat)
    (acc : Acc) (xs : List Word) (k : Nat) (c : Context) :
    State.deliveryEnd v type ((((longStartState s).accessed pre).framed a n acc xs k).setCtx c)
      = deliveredWith s v type (pre ++ frameHist a n acc xs k) c (frameMem a n xs k s.mem) s.exc := by
  simp [State.deliveryEnd, deliveredWith, State.accessed, State.framed, State.setHist, State.setPort, State.setMem,
    State.setCtx, State.setExc, longStartState, State.setSched, frameHist_length]

theorem State.accessed_nil (s : State) : s.accessed [] = s := by
  simp [State.accessed, State.setHist, State.setPort]

theorem deliver_real {s : State} {v : Vector8} {type : BitVec 3} {push : Bool} {ec : Half} (h : RealReady s v) :
    deliver v type push ec s = .ok () (realDelivered s v type) := by
  have h' : RealReady (legacyStart s) v :=
    { lma := h.lma, pe := h.pe, idt := h.idt, port := h.port, stack := h.stack, limit := h.limit }
  have e := run_realModeInt_ok h'
  rw [State.pushedAll_eq _ _ _ _ _ (by omega) (by simp [realFrame])] at e
  have e2 := (run_legacyInt (v := v) (soft := isSoft type) (push := push) (ec := ec) (s := legacyStart s)).trans
    ((if_neg (by rw [show (legacyStart s).regs.pe = false from h.pe]; simp)).trans e)
  rw [run_deliver_ok (run_modeInt_legacy h.lma e2)]
  refine congrArg (EStateM.Result.ok ()) ?_
  have := legacyEnd_eq s v type [] [.memR (ivtAddr s v) 2 .sys, .memR (ivtAddr s v + 2#64) 2 .sys] (slotAddr s.ctx 2) 2
    (.stack s.ctx.cpl) (realFrame s.ctx) 1
          { s.ctx with
            rsp := mergeSp s.ctx.ss.cache.db s.ctx.rsp (slotOff s.ctx 2 3)
            cs := ⟨(ivtCs s v).setWidth 16, true, { s.ctx.cs.cache with base := ivtCs s v <<< 4 }⟩
            rip := ivtIp s v
            rflags := flagsAfterReal s.ctx.rflags }
  rw [State.accessed_nil] at this
  exact this

theorem legacyEnd_prot (s : State) (v : Vector8) (type : BitVec 3) (pre : List Event) (a : Nat → Word) (n : Nat)
    (acc : Acc) (xs : List Word) (k : Nat) (c : Context) :
    State.deliveryEnd v type
        (((((legacyStart s).accessed pre).framed a n acc xs k).setCtx c).setExc
          { (((((legacyStart s).accessed pre).framed a n acc xs k).setCtx c).exc) with specRsp := false })
      = deliveredWith s v type (pre ++ frameHist a n acc xs k) c (frameMem a n xs k s.mem) (legacySnapshot s) := by
  have := legacyEnd_eq s v type pre [] a n acc xs k c
  rw [State.accessed_nil, List.append_nil] at this
  exact this

/-! The start of a delivery changes nothing that its tests look at. -/

theorem GatePassed.toStart {s : State} {v : Vector8} {soft : Bool} (h : GatePassed s v soft) :
    GatePassed (legacyStart s) v soft :=
  { lma := h.lma, pe := h.pe, noCet := h.noCet, idt := h.idt, port := h.port, system := h.system, type := h.type,
    dpl := h.dpl, present := h.present }

theorem CodePassed.toStart {s : State} {v : Vector8} {soft : Bool} (h : CodePassed s v soft) :
    CodePassed (legacyStart s) v soft :=
  { toGatePassed := h.toGatePassed.toStart, notNull := h.notNull, inTable := h.inTable, code := h.code,
    codeDpl := h.codeDpl, codePresent := h.codePresent }

theorem GateReady.toStart {s : State} {v : Vector8} {soft : Bool} (h : GateReady s v soft) :
    GateReady (legacyStart s) v soft := { toCodePassed := h.toCodePassed.toStart, limit := h.limit }

theorem TssPassed.toStart {s : State} {v : Vector8} {soft big : Bool} (h : TssPassed s v soft big) :
    TssPassed (legacyStart s) v soft big :=
  { toCodePassed := h.toCodePassed.toStart, conforming := h.conforming, level := h.level, trValid := h.trValid,
    trType := h.trType, trLimit := h.trLimit }

theorem NewStackPassed.toStart {s : State} {v : Vector8} {soft big : Bool} (h : NewStackPassed s v soft big) :
    NewStackPassed (legacyStart s) v soft big :=
  { toTssPassed := h.toTssPassed.toStart, v86 := h.v86, ssNotNull := h.ssNotNull, ssInTable := h.ssInTable,
    ssRpl := h.ssRpl, ssDpl := h.ssDpl, ssData := h.ssData, ssPresent := h.ssPresent }

theorem LongGatePassed.toStart {s : State} {v : Vector8} {soft : Bool} (h : LongGatePassed s v soft) :
    LongGatePassed (longStartState s) v soft :=
  { lma := h.lma, noCet := h.noCet, idt := h.idt, port := h.port, high := h.high, system := h.system, type := h.type,
    dpl := h.dpl, present := h.present }

theorem LongTssPassed.toStart {s : State} {v : Vector8} {soft : Bool} (h : LongTssPassed s v soft) :
    LongTssPassed (longStartState s) v soft :=
  { toLongGatePassed := h.toLongGatePassed.toStart, notNull := h.notNull, inTable := h.inTable, code := h.code,
    codeDpl := h.codeDpl, code64 := h.code64, codePresent := h.codePresent, tss := h.tss }

theorem deliver_same {s : State} {v : Vector8} {type : BitVec 3} {push : Bool} {ec : Half}
    (h : SameReady s v (softType type) push) :
    deliver v type push ec s = .ok () (sameDelivered s v type push ec) := by
  have h' : SameReady (legacyStart s) v (softType type) push :=
    { toGateReady := h.toGateReady.toStart, level := h.level, notV86 := h.notV86, stack := h.stack }
  have e := run_protModeInt_same ec h'
  have e2 := (run_legacyInt (v := v) (soft := isSoft type) (push := push) (ec := ec) (s := legacyStart s)).trans
    ((if_pos h.pe).trans e)
  rw [run_deliver_ok (run_modeInt_legacy h.lma e2)]
  exact congrArg (EStateM.Result.ok ()) (legacyEnd_prot s v type (gateReads s v) _ _ _ _ _ _)

/-- The context an inner delivery leaves, as `innerDelivered` writes it. -/
theorem innerCtx_eq (c : Context) (g : Gate) (d ss : Desc) (nss : Half) (sp : Word) :
    gateEnter g (innerEnter nss ss d.dpl sp { c with cs := loadSeg g.selector d d.dpl, cpl := d.dpl })
      = { c with
          ss := ⟨(nss &&& 0xFFFC#16) ||| d.dpl.setWidth 16, true, { ss with s := true, p := true }⟩
          rsp := if ss.db then sp else (c.rsp &&& ~~~0xFFFF#64) ||| sp
          cs := csAfter g d d.dpl
          cpl := d.dpl
          gs := if c.vm then nulled c.gs else c.gs
          fs := if c.vm then nulled c.fs else c.fs
          ds := if c.vm then nulled c.ds else c.ds
          es := if c.vm then nulled c.es else c.es
          rip := g.offset
          rflags := gateFlags g c.rflags } := by
  have hv : ({ c with cs := loadSeg g.selector d d.dpl, cpl := d.dpl } : Context).vm = c.vm := rfl
  unfold gateEnter innerEnter
  rw [hv]
  cases c.vm <;> simp only [Bool.false_eq_true, if_false, if_true, gateFlags_eq] <;> rfl

/-- The context a long-mode delivery leaves, as `longDelivered` writes it. -/
theorem longCtx_eq (c : Context) (g : Gate) (d : Desc) (pl : BitVec 2) (inner : Bool) (sp : Word) :
    longEnter g inner pl sp { c with cs := loadSeg g.selector d pl, cpl := pl }
      = { c with
          cs := csAfter g d pl
          cpl := pl
          ss := if inner then ⟨pl.setWidth 16, false, c.ss.cache⟩ else c.ss
          rsp := sp
          rip := g.offset
          rflags := gateFlags g c.rflags } := by
  unfold longEnter gateEnter
  cases inner <;> simp only [Bool.false_eq_true, if_false, if_true, gateFlags_eq] <;> rfl

theorem deliver_inner {s : State} {v : Vector8} {type : BitVec 3} {push big : Bool} {ec : Half}
    (h : InnerReady s v (softType type) push big) :
    deliver v type push ec s = .ok () (innerDelivered s v type push big ec) := by
  have h' : InnerReady (legacyStart s) v (softType type) push big :=
    { toNewStackPassed := h.toNewStackPassed.toStart, limit := h.limit, stack := h.stack }
  have e := run_protModeInt_inner ec h'
  have e2 := (run_legacyInt (v := v) (soft := isSoft type) (push := push) (ec := ec) (s := legacyStart s)).trans
    ((if_pos h.pe).trans e)
  rw [run_deliver_ok (run_modeInt_legacy h.lma e2)]
  refine congrArg (EStateM.Result.ok ()) ?_
  refine (legacyEnd_prot s v type (gateReads s v ++ innerReads s v big) _ _ _ _ _ _).trans ?_
  exact congrArg (fun c => deliveredWith s v type _ c _ _) (innerCtx_eq s.ctx (gateOf s v) (codeOf s v) _ _ _)

theorem deliver_long {s : State} {v : Vector8} {type : BitVec 3} {push : Bool} {ec : Half}
    (h : LongReady s v (softType type) push) :
    deliver v type push ec s = .ok () (longDelivered s v type push ec) := by
  have h' : LongReady (longStartState s) v (softType type) push :=
    { toLongTssPassed := h.toLongTssPassed.toStart, stack := h.stack, offset := h.offset }
  have e := run_longModeInt_ok ec h'
  have g1 : longGateOf (longStartState s) v = longGateOf s v := rfl
  have g2 : longCodeOf (longStartState s) v = longCodeOf s v := rfl
  have g3 : longInner (longStartState s) v = longInner s v := rfl
  have g4 : longLevel (longStartState s) v = longLevel s v := rfl
  have g5 : longSlot (longStartState s) v = longSlot s v := rfl
  have g6 : longReads (longStartState s) v = longReads s v := rfl
  have g7 : longGateReads (longStartState s) v = longGateReads s v := rfl
  have g8 : (longStartState s).ctx = s.ctx := rfl
  rw [g1, g2, g3, g4, g5, g6, g7, g8] at e
  rw [run_deliver_ok (run_modeInt_long h.lma e)]
  refine congrArg (EStateM.Result.ok ()) ?_
  rw [longEnd_eq s v type]
  rw [longCtx_eq]
  unfold longDelivered longReads
  cases longTssIndex s v <;> rfl

/-- A delivery that `DeliversTo` describes completes so (R292). -/
theorem deliver_ok {s t : State} {v : Vector8} {type : BitVec 3} {push : Bool} {ec : Half}
    (h : DeliversTo s v type push ec t) : deliver v type push ec s = .ok () t := by
  cases h with
  | real h => exact deliver_real h
  | same h => exact deliver_same h
  | inner big h => exact deliver_inner h
  | long h => exact deliver_long h

end Sys2Proof.Machine
end

