-- ==== Sys2Proof/Laws/Encoding.lean ====
section
/-! SUPPORT. The fields of an encoded command (spec/30_encoding.md R100): what the decoder reads back from `mkCmd`, and
what a mask keeps of it. -/

namespace Sys2Proof

@[simp] theorem op_mkCmd (op a f : BitVec 8) (x y : Word) : (Command.mk (mkCmd op a f) x y).op = op := by
  ext i hi
  simp only [Command.op, mkCmd, BitVec.getElem_extractLsb', BitVec.getLsbD_append]
  rw [if_neg (by omega), if_neg (by omega), if_neg (by omega), ← BitVec.getLsbD_eq_getElem]
  congr 1
  omega

@[simp] theorem a_mkCmd (op a f : BitVec 8) (x y : Word) : (Command.mk (mkCmd op a f) x y).a = a := by
  ext i hi
  simp only [Command.a, mkCmd, BitVec.getElem_extractLsb', BitVec.getLsbD_append]
  rw [if_neg (by omega), if_neg (by omega), if_pos (by omega), ← BitVec.getLsbD_eq_getElem]
  congr 1
  omega

@[simp] theorem f_mkCmd (op a f : BitVec 8) (x y : Word) : (Command.mk (mkCmd op a f) x y).f = f := by
  ext i hi
  simp only [Command.f, mkCmd, BitVec.getElem_extractLsb', BitVec.getLsbD_append]
  rw [if_neg (by omega), if_pos (by omega), ← BitVec.getLsbD_eq_getElem]
  congr 1
  omega

@[simp] theorem z_mkCmd (op a f : BitVec 8) (x y : Word) : (Command.mk (mkCmd op a f) x y).z = 0#8 := by
  ext i hi
  simp only [Command.z, mkCmd, BitVec.getElem_extractLsb', BitVec.getLsbD_append]
  rw [if_pos (by omega)]
  simp

/-- A mask acts on the four fields of `CMD` one by one. -/
theorem mkCmd_and (op a f mo ma mf mz : BitVec 8) :
    mkCmd op a f &&& (mo ++ ma ++ mf ++ mz) = (op &&& mo) ++ (a &&& ma) ++ (f &&& mf) ++ (0#8 &&& mz) := by
  unfold mkCmd
  rw [← BitVec.and_append, ← BitVec.and_append, ← BitVec.and_append]

end Sys2Proof
end

