-- ==== Sys2Proof/Laws/Spec.lean ====
section
/-! SUPPORT. What the shared operations of `Machine/Ops.lean` can do, each said once. `Spec R E m` says: from any state,
where `m` ends normally the states are related by `R`, and where it leaves its rule by `E`. A delivery satisfies every
`Spec R E` whose `R` and `E` admit the few writes and exits of `DeliverySteps`; so one lemma yields frames, invariants and
the vectors a delivery can raise. -/

namespace Sys2Proof.Machine

/-- What a running command may do to the state (`R`), and how it may leave its rule (`E`). -/
def Spec (R : State → State → Prop) (E : State → State → Stop → Prop) {α : Type} (m : M α) : Prop :=
  ∀ s, match m s with
    | .ok _ s' => R s s'
    | .error e s' => E s s' e

variable {R : State → State → Prop} {E : State → State → Stop → Prop} {α β : Type}

theorem Spec.ok {m : M α} (h : Spec R E m) {s s' : State} {a : α} (e : m s = .ok a s') : R s s' := by
  have := h s; rwa [e] at this

theorem Spec.error {m : M α} (h : Spec R E m) {s s' : State} {x : Stop} (e : m s = .error x s') : E s s' x := by
  have := h s; rwa [e] at this

/-- `R` is a preorder that may precede any exit. -/
structure Chain (R : State → State → Prop) (E : State → State → Stop → Prop) : Prop where
  refl : ∀ s, R s s
  trans : ∀ {a b c}, R a b → R b c → R a c
  pre : ∀ {a b c x}, R a b → E b c x → E a c x

theorem Spec.pure (h : Chain R E) (a : α) : Spec R E (pure a : M α) := fun s => h.refl s

theorem Spec.bind (h : Chain R E) {m : M α} {f : α → M β} (hm : Spec R E m) (hf : ∀ a, Spec R E (f a)) :
    Spec R E (m >>= f) := by
  intro s
  rw [run_bind]
  have h1 := hm s
  cases e : m s with
  | ok a s' =>
    rw [e] at h1
    have h2 := hf a s'
    simp only
    cases e2 : f a s' with
    | ok b s'' => rw [e2] at h2; exact h.trans h1 h2
    | error x s'' => rw [e2] at h2; exact h.pre h1 h2
  | error x s' => rw [e] at h1; exact h1

theorem Spec.get (h : Chain R E) : Spec R E (get : M State) := fun s => h.refl s

/-- A command that first reads the state may use what it read. -/
theorem Spec.get_bind {f : State → M β} (hf : ∀ s, match f s s with | .ok _ s' => R s s' | .error e s' => E s s' e) :
    Spec R E (MonadState.get >>= f) := fun s => hf s

theorem Spec.modify {f : State → State} (hf : ∀ s, R s (f s)) : Spec R E (modify f : M PUnit) := fun s => hf s

theorem Spec.ite {c : Prop} [Decidable c] {m n : M α} (hm : c → Spec R E m) (hn : ¬c → Spec R E n) :
    Spec R E (if c then m else n) := by
  split
  · exact hm ‹_›
  · exact hn ‹_›

theorem Spec.raise {v : Vector8} {ec : Half} (hr : ∀ s, E s s (.raise v ec)) :
    Spec R E (raise v ec : M α) := fun s => hr s

theorem Spec.raiseIf (h : Chain R E) {c : Bool} {v : Vector8} {ec : Half} (hr : c = true → ∀ s, E s s (.raise v ec)) :
    Spec R E (raiseIf c v ec) := by
  cases c
  · exact fun s => h.refl s
  · exact fun s => hr rfl s

theorem Spec.abortIf (h : Chain R E) {c : Bool} {r : AbortReason}
    (ha : c = true → ∀ s, E s (s.abortedBy r) (.done .abort)) : Spec R E (abortIf c r) := by
  cases c
  · exact fun s => h.refl s
  · exact fun s => ha rfl s

/-- A vector that a delivery can raise (R296, R297, R320 to R337, R355, R76). -/
def deliveryVector (v : Vector8) : Prop := v = 10#8 ∨ v = 11#8 ∨ v = 12#8 ∨ v = 13#8 ∨ v = 14#8

/-- Two contexts that differ only in what a delivery or a rollback writes (R43, R45, R46): TR, LDTR and the table
registers are the same. -/
def sameTables (c c' : Context) : Prop :=
  c'.tr = c.tr ∧ c'.ldtr = c.ldtr ∧ c'.gdtr = c.gdtr ∧ c'.idtr = c.idtr

/-- The writes and exits of a delivery. -/
structure DeliverySteps (R : State → State → Prop) (E : State → State → Stop → Prop) : Prop extends Chain R E where
  hist : ∀ s e, R s (s.setHist (s.hist ++ [e]))
  port : ∀ s, R s (s.setPort s.port.tail)
  mem : ∀ s a n v, R s (s.setMem (s.mem.writeLE a n v))
  cr2 : ∀ s a, R s (s.setRegs { s.regs with cr2 := a })
  ctx : ∀ s c, sameTables s.ctx c → R s (s.setCtx c)
  sched : ∀ s, R s (s.setSched { s.sched with debugTrap := 0#16, inhibit := 0#2 })
  exc : ∀ s e, e.lastType = s.exc.lastType → R s (s.setExc e)
  raise : ∀ s v ec, deliveryVector v → E s s (.raise v ec)
  abort : ∀ s r, E s (s.abortedBy r) (.done .abort)
  taskSw : ∀ s v t d p ec, E s (s.setHist (s.hist ++ [.taskSwitch t d p ec])) (.done (.taskSw v t))
  refuse : ∀ s, s.cfg.cetSupported = true → E s s (.refuse .cetNotSpecified)

theorem deliveryVector_10 : deliveryVector 10#8 := .inl rfl
theorem deliveryVector_11 : deliveryVector 11#8 := .inr (.inl rfl)
theorem deliveryVector_12 : deliveryVector 12#8 := .inr (.inr (.inl rfl))
theorem deliveryVector_13 : deliveryVector 13#8 := .inr (.inr (.inr (.inl rfl)))
theorem deliveryVector_14 : deliveryVector 14#8 := .inr (.inr (.inr (.inr rfl)))

namespace DeliverySteps

variable (h : DeliverySteps R E)
include h

theorem raiseIf {c : Bool} {v : Vector8} {ec : Half} (hv : deliveryVector v) : Spec R E (raiseIf c v ec) :=
  Spec.raiseIf h.toChain fun _ s => h.raise s v ec hv

theorem abortIf {c : Bool} {r : AbortReason} : Spec R E (abortIf c r) :=
  Spec.abortIf h.toChain fun _ s => h.abort s r

theorem emit (e : Event) : Spec R E (emit e) := Spec.modify fun s => h.hist s e

theorem modifyCtx {f : Context → Context} (hf : ∀ c, sameTables c (f c)) : Spec R E (modifyCtx f) :=
  Spec.modify fun s => h.ctx s _ (hf s.ctx)

theorem modifyExc {f : ExcState → ExcState} (hf : ∀ e, (f e).lastType = e.lastType) : Spec R E (modifyExc f) :=
  Spec.modify fun s => h.exc s _ (hf s.exc)

theorem portAccess (a : Word) : Spec R E (portAccess a) := by
  refine Spec.bind h.toChain (fun s => h.port s) fun x => ?_
  cases x with
  | none => exact Spec.pure h.toChain _
  | some ec =>
    refine Spec.bind h.toChain (fun s => h.cr2 s a) fun _ => ?_
    exact Spec.raise fun s => h.raise s _ _ deliveryVector_14

theorem memRead (a : Word) (n : Nat) (acc : Acc) : Spec R E (memRead a n acc) :=
  Spec.bind h.toChain (h.emit _) fun _ => Spec.bind h.toChain (h.portAccess a) fun _ =>
    Spec.bind h.toChain (Spec.get h.toChain) fun _ => Spec.pure h.toChain _

theorem memWrite (a : Word) (n : Nat) (v : Word) (acc : Acc) : Spec R E (memWrite a n v acc) :=
  Spec.bind h.toChain (h.portAccess a) fun _ => Spec.bind h.toChain (Spec.modify fun s => h.mem s a n v) fun _ =>
    h.emit _

theorem checkStack (d : Desc) (off : Word) (n : Nat) (e : Half) : Spec R E (checkStack d off n e) :=
  h.raiseIf deliveryVector_12

theorem push (n : Nat) (x : Word) : Spec R E (push n x) :=
  Spec.bind h.toChain (Spec.get h.toChain) fun _ => Spec.bind h.toChain (h.checkStack _ _ _ _) fun _ =>
    Spec.bind h.toChain (h.memWrite _ _ _ _) fun _ => h.modifyCtx fun _ => ⟨rfl, rfl, rfl, rfl⟩

theorem pushInner (d : Desc) (e : Half) (n : Nat) (pl : BitVec 2) (xs : List Word) (t : Word) :
    Spec R E (pushInner d e n pl xs t) := by
  induction xs generalizing t with
  | nil => exact Spec.pure h.toChain _
  | cons x xs ih =>
    exact Spec.bind h.toChain (h.checkStack _ _ _ _) fun _ => Spec.bind h.toChain (h.memWrite _ _ _ _) fun _ => ih _

theorem pushLong (pl : BitVec 2) (xs : List Word) (t : Word) : Spec R E (pushLong pl xs t) := by
  induction xs generalizing t with
  | nil => exact Spec.pure h.toChain _
  | cons x xs ih =>
    exact Spec.bind h.toChain (h.raiseIf deliveryVector_12) fun _ =>
      Spec.bind h.toChain (h.memWrite _ _ _ _) fun _ => ih _

theorem loadCs (sel : Half) (d : Desc) (pl : BitVec 2) : Spec R E (loadCs sel d pl) :=
  h.modifyCtx fun _ => ⟨rfl, rfl, rfl, rfl⟩

theorem realModeInt (v : Vector8) : Spec R E (realModeInt v) :=
  Spec.bind h.toChain (Spec.get h.toChain) fun _ => Spec.bind h.toChain (h.raiseIf deliveryVector_13) fun _ =>
    Spec.bind h.toChain (h.push _ _) fun _ => Spec.bind h.toChain (h.push _ _) fun _ =>
    Spec.bind h.toChain (h.push _ _) fun _ => Spec.bind h.toChain (h.memRead _ _ _) fun _ =>
    Spec.bind h.toChain (h.raiseIf deliveryVector_13) fun _ => Spec.bind h.toChain (h.memRead _ _ _) fun _ =>
    h.modifyCtx fun _ => ⟨rfl, rfl, rfl, rfl⟩

theorem cetGuard : Spec R E cetGuard := by
  intro s
  unfold Machine.cetGuard
  simp only [run_bind, run_get, run_ite, run_throw, run_pure]
  split
  · rename_i e x hx
    split at hx
    · cases hx
    · cases hx; exact h.refl s
  · rename_i e x hx
    split at hx
    · rename_i hc
      cases hx
      exact h.refuse s (by simp only [Bool.and_eq_true] at hc; exact hc.1)
    · cases hx

theorem fetchDesc (sel : Half) (x : Vector8) (hx : deliveryVector x) : Spec R E (fetchDesc sel x) := by
  refine Spec.ite (fun _ => ?_) fun _ => ?_
  · exact Spec.bind h.toChain (Spec.get h.toChain) fun _ => Spec.bind h.toChain (h.raiseIf hx) fun _ =>
      Spec.bind h.toChain (h.raiseIf hx) fun _ => h.memRead _ _ _
  · exact Spec.bind h.toChain (Spec.get h.toChain) fun _ => Spec.bind h.toChain (h.raiseIf hx) fun _ => h.memRead _ _ _

theorem taskGate (v : Vector8) (t : Half) (p : Bool) (ec : Half) : Spec R E (taskGate v t p ec) := by
  refine Spec.bind h.toChain (h.raiseIf deliveryVector_13) fun _ => Spec.bind h.toChain (h.fetchDesc _ _ deliveryVector_13)
    fun d => Spec.bind h.toChain (h.raiseIf deliveryVector_13) fun _ => Spec.bind h.toChain (h.raiseIf deliveryVector_11)
    fun _ => ?_
  exact fun s => h.taskSw s v t (parseDesc d) p ec

theorem tssStack (pl : BitVec 2) : Spec R E (tssStack pl) := by
  refine Spec.bind h.toChain (Spec.get h.toChain) fun _ => Spec.bind h.toChain h.abortIf fun _ => ?_
  refine Spec.ite (fun _ => ?_) fun _ => Spec.ite (fun _ => ?_) fun _ => ?_
  · exact Spec.bind h.toChain (Spec.get h.toChain) fun _ => Spec.bind h.toChain (h.raiseIf deliveryVector_10) fun _ =>
      Spec.bind h.toChain (h.memRead _ _ _) fun _ => Spec.bind h.toChain (h.memRead _ _ _) fun _ => Spec.pure h.toChain _
  · exact Spec.bind h.toChain (Spec.get h.toChain) fun _ => Spec.bind h.toChain (h.raiseIf deliveryVector_10) fun _ =>
      Spec.bind h.toChain (h.memRead _ _ _) fun _ => Spec.bind h.toChain (h.memRead _ _ _) fun _ => Spec.pure h.toChain _
  · exact fun s => h.abort s _

theorem innerDelivery (g : Gate) (c : Desc) (big p : Bool) (ec : Half) : Spec R E (innerDelivery g c big p ec) := by
  refine Spec.bind h.toChain (h.tssStack _) fun ⟨nss, nesp⟩ => Spec.bind h.toChain (Spec.get h.toChain) fun _ =>
    Spec.bind h.toChain (h.raiseIf deliveryVector_13) fun _ => Spec.bind h.toChain (h.raiseIf deliveryVector_10) fun _ =>
    Spec.bind h.toChain (h.fetchDesc _ _ deliveryVector_10) fun _ =>
    Spec.bind h.toChain (h.raiseIf deliveryVector_10) fun _ => Spec.bind h.toChain (h.raiseIf deliveryVector_10) fun _ =>
    Spec.bind h.toChain (h.raiseIf deliveryVector_10) fun _ => Spec.bind h.toChain (h.raiseIf deliveryVector_12) fun _ =>
    Spec.bind h.toChain (h.raiseIf deliveryVector_13) fun _ => Spec.bind h.toChain (h.pushInner _ _ _ _ _ _) fun _ =>
    Spec.bind h.toChain (h.loadCs _ _ _) fun _ => h.modifyCtx fun c => ?_
  cases hv : c.vm <;> simp [sameTables, innerEnter, hv]

theorem sameLevelDelivery (g : Gate) (c : Desc) (big p : Bool) (ec : Half) :
    Spec R E (sameLevelDelivery g c big p ec) := by
  refine Spec.bind h.toChain (Spec.get h.toChain) fun _ => Spec.bind h.toChain (h.raiseIf deliveryVector_13) fun _ =>
    Spec.bind h.toChain (h.raiseIf deliveryVector_13) fun _ => Spec.bind h.toChain (h.push _ _) fun _ =>
    Spec.bind h.toChain (h.push _ _) fun _ => Spec.bind h.toChain (h.push _ _) fun _ => Spec.bind h.toChain ?_ fun _ =>
    h.loadCs _ _ _
  unfold pushErrorCode
  exact Spec.ite (fun _ => h.push _ _) fun _ => Spec.pure h.toChain _

theorem protGate (g : Gate) (p : Bool) (ec : Half) : Spec R E (protGate g p ec) :=
  Spec.bind h.toChain (h.raiseIf deliveryVector_13) fun _ =>
    Spec.bind h.toChain (h.fetchDesc _ _ deliveryVector_13) fun _ => Spec.bind h.toChain (Spec.get h.toChain) fun _ =>
    Spec.bind h.toChain (h.raiseIf deliveryVector_13) fun _ => Spec.bind h.toChain (h.raiseIf deliveryVector_11) fun _ =>
    Spec.bind h.toChain
      (Spec.bind h.toChain (Spec.get h.toChain) fun _ =>
        Spec.ite (fun _ => h.innerDelivery _ _ _ _ _) fun _ => h.sameLevelDelivery _ _ _ _ _)
    fun _ => h.modifyCtx fun _ => ⟨rfl, rfl, rfl, rfl⟩

theorem protModeInt (v : Vector8) (soft p : Bool) (ec : Half) : Spec R E (protModeInt v soft p ec) :=
  Spec.bind h.toChain h.cetGuard fun _ => Spec.bind h.toChain (Spec.get h.toChain) fun _ =>
    Spec.bind h.toChain (h.raiseIf deliveryVector_13) fun _ => Spec.bind h.toChain (h.memRead _ _ _) fun _ =>
    Spec.bind h.toChain (h.raiseIf deliveryVector_13) fun _ => Spec.bind h.toChain (h.raiseIf deliveryVector_13) fun _ =>
    Spec.bind h.toChain (h.raiseIf deliveryVector_11) fun _ =>
    Spec.ite (fun _ => h.taskGate _ _ _ _) fun _ => h.protGate _ _ _

theorem tssRsp (k : Nat) : Spec R E (tssRsp k) :=
  Spec.bind h.toChain (Spec.get h.toChain) fun _ => Spec.bind h.toChain h.abortIf fun _ =>
    Spec.bind h.toChain h.abortIf fun _ => Spec.bind h.toChain (h.raiseIf deliveryVector_10) fun _ => h.memRead _ _ _

theorem longStack (ist : BitVec 3) (inner : Bool) (pl : BitVec 2) : Spec R E (longStack ist inner pl) :=
  Spec.bind h.toChain (Spec.get h.toChain) fun _ =>
    Spec.ite (fun _ => h.tssRsp _) fun _ => Spec.ite (fun _ => h.tssRsp _) fun _ => Spec.pure h.toChain _

theorem longGate (g : Gate) (p : Bool) (ec : Half) : Spec R E (longGate g p ec) :=
  Spec.bind h.toChain (h.raiseIf deliveryVector_13) fun _ =>
    Spec.bind h.toChain (h.fetchDesc _ _ deliveryVector_13) fun _ => Spec.bind h.toChain (Spec.get h.toChain) fun _ =>
    Spec.bind h.toChain (h.raiseIf deliveryVector_13) fun _ => Spec.bind h.toChain (h.raiseIf deliveryVector_13) fun _ =>
    Spec.bind h.toChain (h.raiseIf deliveryVector_11) fun _ => Spec.bind h.toChain (h.longStack _ _ _) fun _ =>
    Spec.bind h.toChain (h.pushLong _ _ _) fun _ => Spec.bind h.toChain (h.raiseIf deliveryVector_13) fun _ =>
    Spec.bind h.toChain (h.loadCs _ _ _) fun _ => h.modifyCtx fun _ => ⟨rfl, rfl, rfl, rfl⟩

theorem longModeInt (v : Vector8) (soft p : Bool) (ec : Half) : Spec R E (longModeInt v soft p ec) :=
  Spec.bind h.toChain h.cetGuard fun _ => Spec.bind h.toChain (Spec.get h.toChain) fun _ =>
    Spec.bind h.toChain (h.raiseIf deliveryVector_13) fun _ => Spec.bind h.toChain (h.memRead _ _ _) fun _ =>
    Spec.bind h.toChain (h.memRead _ _ _) fun _ => Spec.bind h.toChain (h.raiseIf deliveryVector_13) fun _ =>
    Spec.bind h.toChain (h.raiseIf deliveryVector_13) fun _ => Spec.bind h.toChain (h.raiseIf deliveryVector_13) fun _ =>
    Spec.bind h.toChain (h.raiseIf deliveryVector_11) fun _ => h.longGate _ _ _

/-- Everything the three mode routines can do (R292). -/
theorem modeInt (v : Vector8) (soft p : Bool) (ec : Half) : Spec R E (modeInt v soft p ec) := by
  refine Spec.bind h.toChain (Spec.get h.toChain) fun _ => Spec.ite (fun _ => h.longModeInt _ _ _ _) fun _ => ?_
  refine Spec.bind h.toChain (Spec.modify fun s => h.exc s _ rfl) fun _ => Spec.bind h.toChain ?_ fun _ =>
    h.modifyExc fun _ => rfl
  exact Spec.bind h.toChain (Spec.get h.toChain) fun _ =>
    Spec.ite (fun _ => h.protModeInt _ _ _ _) fun _ => h.realModeInt _

/-- Everything a delivery can do (R292). -/
theorem deliver (v : Vector8) (type : BitVec 3) (p : Bool) (ec : Half) : Spec R E (deliver v type p ec) :=
  Spec.bind h.toChain (Spec.modify fun s => h.sched s) fun _ => Spec.bind h.toChain (h.modifyExc fun _ => rfl) fun _ =>
    Spec.bind h.toChain (h.modeInt _ _ _ _) fun _ => Spec.bind h.toChain (Spec.modify fun s => h.exc s _ rfl) fun _ =>
    h.emit _

end DeliverySteps

end Sys2Proof.Machine
end

