-- ==== Sys2Proof/Laws/Exception.lean ====
section
/-! SUPPORT. Everything taking an exception can do (spec/45_exception_preprocessing.md R262), said once: the writes and
exits of `ExceptionSteps`, which adds the stages before the delivery to `DeliverySteps`. -/

namespace Sys2Proof.Machine

variable {R : State → State → Prop} {E : State → State → Stop → Prop} {α β : Type}

theorem Spec.onRaise (h : Chain R E) (hc : ∀ s s' v ec, E s s' (.raise v ec) → R s s') {m : M α} {k : α → M β}
    {f : Vector8 → Half → M β} (hm : Spec R E m) (hk : ∀ a, Spec R E (k a)) (hf : ∀ v ec, Spec R E (f v ec)) :
    Spec R E (onRaise m k f) := by
  intro s
  have h1 := hm s
  have key : ∀ s', R s s' → ∀ n : M β, Spec R E n →
      (match n s' with | .ok _ s'' => R s s'' | .error e s'' => E s s'' e) := by
    intro s' hr n hn
    have h2 := hn s'
    cases e : n s' with
    | ok b s'' => rw [e] at h2; exact h.trans hr h2
    | error x s'' => rw [e] at h2; exact h.pre hr h2
  unfold Machine.onRaise
  cases e : m s with
  | ok a s' => rw [e] at h1; exact key s' h1 _ (hk a)
  | error x s' =>
    rw [e] at h1
    cases x with
    | raise v ec => exact key s' (hc s s' v ec h1) _ (hf v ec)
    | done a => exact h1
    | refuse r => exact h1
    | depth => exact h1

/-- The state a triple fault leaves where the configured action is shutdown (R274). -/
def State.shutDown (s : State) : State :=
  ((((s.setSched { s.sched with activity := .shutdown }).setCtx { s.ctx with rflags := flagsWithoutIF s.ctx.rflags }).setExc
    (excIdle s.exc)).setAborted true).setHist (s.hist ++ [.shutdown])

/-- The state a triple fault leaves where the configured action is reset (R274, R410). -/
def State.tripleReset (s : State) : State := (resetState s).setHist (s.hist ++ [.reset .tripleFault])

/-- Everything a triple fault does. -/
theorem run_tripleFault (s : State) :
    (tripleFault : M α) s
      = if s.cfg.tripleFaultAction = .reset then .error (.done .reset) s.tripleReset
        else .error (.done .shutdown) s.shutDown := by
  unfold tripleFault
  rw [run_bind, run_get]
  simp only [run_ite, beq_iff_eq]
  split
  · rfl
  · rfl

/-- The writes and exits of taking an exception. -/
structure ExceptionSteps (R : State → State → Prop) (E : State → State → Stop → Prop) : Prop
    extends DeliverySteps R E where
  caught : ∀ s s' v ec, E s s' (.raise v ec) → R s s'
  lastType : ∀ s c, R s (s.setExc { s.exc with lastType := c })
  commit : ∀ s, R s (s.setRegs (commitDebug s.sched.debugTrap s.regs))
  vmexit : ∀ s i, E s (s.exited i) (.done .vmexit)
  tripleReset : ∀ s, s.cfg.tripleFaultAction = .reset → E s s.tripleReset (.done .reset)
  shutDown : ∀ s, s.cfg.tripleFaultAction ≠ .reset → E s s.shutDown (.done .shutdown)
  depth : ∀ s, E s s .depth

namespace ExceptionSteps

variable (h : ExceptionSteps R E)
include h

theorem obeyPlain (a : Option ExitInfo) : Spec R E (obeyPlain a) := by
  cases a with
  | none => exact Spec.pure h.toChain _
  | some i => exact fun s => h.vmexit s i

theorem askExc (v : Vector8) (ec : Half) (p : Bool) (t : BitVec 3) : Spec R E (askExc v ec p t) :=
  Spec.bind h.toChain (Spec.get h.toChain) fun _ => h.obeyPlain _

theorem askPlain (q : PlainQuery) : Spec R E (askPlain q) :=
  Spec.bind h.toChain (Spec.get h.toChain) fun _ => h.obeyPlain _

theorem rollbackIfFault (k : FaultKind) (v : Vector8) : Spec R E (rollbackIfFault k v) :=
  Spec.ite (fun _ => Spec.modify fun s =>
    h.trans (h.ctx s (rollbackCtx v s.exc s.ctx) ⟨rfl, rfl, rfl, rfl⟩)
      (h.exc (s.setCtx (rollbackCtx v s.exc s.ctx)) { s.exc with specRsp := false } rfl)) fun _ =>
    Spec.pure h.toChain _

theorem tripleFault : Spec R E (tripleFault : M α) := by
  intro s
  rw [run_tripleFault]
  by_cases hc : s.cfg.tripleFaultAction = .reset
  · simp only [hc, if_true]; exact h.tripleReset s hc
  · simp only [hc, if_false]; exact h.shutDown s hc

theorem tripleIfDouble : Spec R E tripleIfDouble :=
  Spec.bind h.toChain (Spec.get h.toChain) fun _ => Spec.ite (fun _ => h.tripleFault) fun _ => Spec.pure h.toChain _

theorem commitIfDb (v : Vector8) : Spec R E (commitIfDb v) :=
  Spec.ite (fun _ => Spec.modify fun s => h.commit s) fun _ => Spec.pure h.toChain _

theorem classify (t : ExcClass) (p : Bool) (ec : Half) : Spec R E (classify t p ec) := by
  refine Spec.bind h.toChain (Spec.get h.toChain) fun s => ?_
  cases nextClass s.exc.lastType t with
  | none => exact Spec.pure h.toChain _
  | some c => exact Spec.bind h.toChain (Spec.modify fun s => h.lastType s c) fun _ => Spec.pure h.toChain _

/-- Everything the stages before a delivery can do. -/
theorem exceptionStage (v : Vector8) (ec : Half) : Spec R E (exceptionStage v ec) :=
  Spec.bind h.toChain h.abortIf fun _ => Spec.bind h.toChain (Spec.get h.toChain) fun _ =>
    Spec.bind h.toChain (h.askExc _ _ _ _) fun _ => Spec.bind h.toChain (h.rollbackIfFault _ _) fun _ =>
    Spec.bind h.toChain h.tripleIfDouble fun _ => Spec.bind h.toChain (h.commitIfDb _) fun _ =>
    Spec.bind h.toChain (h.modifyExc fun _ => rfl) fun _ => h.classify _ _ _

/-- Everything taking an exception can do. -/
theorem exception (n : Nat) (v : Vector8) (ec : Half) : Spec R E (exception n v ec) := by
  induction n generalizing v ec with
  | zero => exact fun s => h.depth s
  | succ k ih =>
    refine Spec.bind h.toChain (h.exceptionStage _ _) fun st => ?_
    cases st with
    | escalate => exact ih _ _
    | deliver p ec' =>
      exact Spec.onRaise h.toChain h.caught (h.deliver _ _ _ _)
        (fun _ => Spec.bind h.toChain (Spec.modify fun s => h.lastType s _) fun _ => Spec.pure h.toChain _)
        fun v ec => ih v ec

end ExceptionSteps

end Sys2Proof.Machine
end

