-- ==== Sys2Proof/Laws/PerInstr.lean ====
section
/-! SUPPORT. Facts about each instruction as syntax, one lemma per constructor. The family `RowMatch`: the command word
that `encode` writes matches the instruction's row of spec/opcode_table.json, whose mask and match value stand here as
the table has them. -/

namespace Sys2Proof.Laws.RowMatch

/-- The row's mask: the bits of `CMD` that the table fixes. -/
def mask : Instr → BitVec 32
  | .wrcr0 _ => 0xFFFFFFFF#32
  | .wrcr2 _ => 0xFFFFFFFF#32
  | .wrcr3 _ => 0xFFFFFFFF#32
  | .wrcr4 _ => 0xFFFFFFFF#32
  | .wrcr8 _ => 0xFFFFFFFF#32
  | .wrcr1Ud => 0xFFFFFFFF#32
  | .wrcr5Ud => 0xFFFFFFFF#32
  | .wrcr6_7Ud _ => 0xFFFEFFFF#32
  | .wrcr9Ud => 0xFFFFFFFF#32
  | .wrcr10_11Ud _ => 0xFFFEFFFF#32
  | .wrcr12_15Ud _ => 0xFFFCFFFF#32
  | .rdcr0 => 0xFFFFFFFF#32
  | .rdcr2 => 0xFFFFFFFF#32
  | .rdcr3 => 0xFFFFFFFF#32
  | .rdcr4 => 0xFFFFFFFF#32
  | .rdcr8 => 0xFFFFFFFF#32
  | .rdcr1Ud => 0xFFFFFFFF#32
  | .rdcr5Ud => 0xFFFFFFFF#32
  | .rdcr6_7Ud _ => 0xFFFEFFFF#32
  | .rdcr9Ud => 0xFFFFFFFF#32
  | .rdcr10_11Ud _ => 0xFFFEFFFF#32
  | .rdcr12_15Ud _ => 0xFFFCFFFF#32
  | .wrdr0 _ => 0xFFFFFFFF#32
  | .wrdr1 _ => 0xFFFFFFFF#32
  | .wrdr2 _ => 0xFFFFFFFF#32
  | .wrdr3 _ => 0xFFFFFFFF#32
  | .wrdr4 _ => 0xFFFFFFFF#32
  | .wrdr5 _ => 0xFFFFFFFF#32
  | .wrdr6 _ => 0xFFFFFFFF#32
  | .wrdr7 _ => 0xFFFFFFFF#32
  | .wrdr8_15Ud _ => 0xFFF8FFFF#32
  | .rddr0 => 0xFFFFFFFF#32
  | .rddr1 => 0xFFFFFFFF#32
  | .rddr2 => 0xFFFFFFFF#32
  | .rddr3 => 0xFFFFFFFF#32
  | .rddr4 => 0xFFFFFFFF#32
  | .rddr5 => 0xFFFFFFFF#32
  | .rddr6 => 0xFFFFFFFF#32
  | .rddr7 => 0xFFFFFFFF#32
  | .rddr8_15Ud _ => 0xFFF8FFFF#32
  | .wrefer _ => 0xFFFFFFFF#32
  | .rdefer => 0xFFFFFFFF#32
  | .wrxcr _ _ => 0xFF00FFFF#32
  | .rdxcr _ => 0xFF00FFFF#32
  | .wrxss _ => 0xFFFFFFFF#32
  | .rdxss => 0xFFFFFFFF#32
  | .chkio _ _ _ _ => 0xFF00FCFF#32
  | .boundary => 0xFFFFFFFF#32
  | .inhibit _ => 0xFFFFFCFF#32
  | .signal _ _ => 0xFFF0FEFF#32
  | .evmask _ _ => 0xFFF0FEFF#32
  | .dbgtrap _ => 0xFFFFFFFF#32
  | .activity _ => 0xFFF8FFFF#32
  | .raise _ _ _ => 0xFF00FFFF#32
  | .int _ _ _ _ => 0xFF00F0FF#32
  | .instrStart => 0xFFFFFFFF#32
  | .specRsp => 0xFFFFFFFF#32
  | .commitRsp => 0xFFFFFFFF#32

/-- The row's match value: what those bits are. -/
def value : Instr → BitVec 32
  | .wrcr0 _ => 0x01000000#32
  | .wrcr2 _ => 0x01020000#32
  | .wrcr3 _ => 0x01030000#32
  | .wrcr4 _ => 0x01040000#32
  | .wrcr8 _ => 0x01080000#32
  | .wrcr1Ud => 0x01010000#32
  | .wrcr5Ud => 0x01050000#32
  | .wrcr6_7Ud _ => 0x01060000#32
  | .wrcr9Ud => 0x01090000#32
  | .wrcr10_11Ud _ => 0x010A0000#32
  | .wrcr12_15Ud _ => 0x010C0000#32
  | .rdcr0 => 0x02000000#32
  | .rdcr2 => 0x02020000#32
  | .rdcr3 => 0x02030000#32
  | .rdcr4 => 0x02040000#32
  | .rdcr8 => 0x02080000#32
  | .rdcr1Ud => 0x02010000#32
  | .rdcr5Ud => 0x02050000#32
  | .rdcr6_7Ud _ => 0x02060000#32
  | .rdcr9Ud => 0x02090000#32
  | .rdcr10_11Ud _ => 0x020A0000#32
  | .rdcr12_15Ud _ => 0x020C0000#32
  | .wrdr0 _ => 0x03000000#32
  | .wrdr1 _ => 0x03010000#32
  | .wrdr2 _ => 0x03020000#32
  | .wrdr3 _ => 0x03030000#32
  | .wrdr4 _ => 0x03040000#32
  | .wrdr5 _ => 0x03050000#32
  | .wrdr6 _ => 0x03060000#32
  | .wrdr7 _ => 0x03070000#32
  | .wrdr8_15Ud _ => 0x03080000#32
  | .rddr0 => 0x04000000#32
  | .rddr1 => 0x04010000#32
  | .rddr2 => 0x04020000#32
  | .rddr3 => 0x04030000#32
  | .rddr4 => 0x04040000#32
  | .rddr5 => 0x04050000#32
  | .rddr6 => 0x04060000#32
  | .rddr7 => 0x04070000#32
  | .rddr8_15Ud _ => 0x04080000#32
  | .wrefer _ => 0x05000000#32
  | .rdefer => 0x06000000#32
  | .wrxcr _ _ => 0x07000000#32
  | .rdxcr _ => 0x08000000#32
  | .wrxss _ => 0x09000000#32
  | .rdxss => 0x0A000000#32
  | .chkio _ _ _ _ => 0x10000000#32
  | .boundary => 0x20000000#32
  | .inhibit _ => 0x21000000#32
  | .signal _ _ => 0x22000000#32
  | .evmask _ _ => 0x23000000#32
  | .dbgtrap _ => 0x24000000#32
  | .activity _ => 0x25000000#32
  | .raise _ _ _ => 0x30000000#32
  | .int _ _ _ _ => 0x31000000#32
  | .instrStart => 0x40000000#32
  | .specRsp => 0x41000000#32
  | .commitRsp => 0x42000000#32

/-- The encoded command word matches the instruction's row. -/
abbrev Statement (i : Instr) : Prop := (encode i).cmd &&& mask i = value i

theorem wrcr0 (v : Word) : Statement (.wrcr0 v) := by
  change mkCmd 0x01#8 0x00#8 0#8 &&& 0xFFFFFFFF#32 = 0x01000000#32
  decide

theorem wrcr2 (v : Word) : Statement (.wrcr2 v) := by
  change mkCmd 0x01#8 0x02#8 0#8 &&& 0xFFFFFFFF#32 = 0x01020000#32
  decide

theorem wrcr3 (v : Word) : Statement (.wrcr3 v) := by
  change mkCmd 0x01#8 0x03#8 0#8 &&& 0xFFFFFFFF#32 = 0x01030000#32
  decide

theorem wrcr4 (v : Word) : Statement (.wrcr4 v) := by
  change mkCmd 0x01#8 0x04#8 0#8 &&& 0xFFFFFFFF#32 = 0x01040000#32
  decide

theorem wrcr8 (v : Word) : Statement (.wrcr8 v) := by
  change mkCmd 0x01#8 0x08#8 0#8 &&& 0xFFFFFFFF#32 = 0x01080000#32
  decide

theorem wrcr1Ud : Statement (.wrcr1Ud) := rfl

theorem wrcr5Ud : Statement (.wrcr5Ud) := rfl

theorem wrcr6_7Ud (a : BitVec 1) : Statement (.wrcr6_7Ud a) := by revert a; decide

theorem wrcr9Ud : Statement (.wrcr9Ud) := rfl

theorem wrcr10_11Ud (a : BitVec 1) : Statement (.wrcr10_11Ud a) := by revert a; decide

theorem wrcr12_15Ud (a : BitVec 2) : Statement (.wrcr12_15Ud a) := by revert a; decide

theorem rdcr0 : Statement (.rdcr0) := rfl

theorem rdcr2 : Statement (.rdcr2) := rfl

theorem rdcr3 : Statement (.rdcr3) := rfl

theorem rdcr4 : Statement (.rdcr4) := rfl

theorem rdcr8 : Statement (.rdcr8) := rfl

theorem rdcr1Ud : Statement (.rdcr1Ud) := rfl

theorem rdcr5Ud : Statement (.rdcr5Ud) := rfl

theorem rdcr6_7Ud (a : BitVec 1) : Statement (.rdcr6_7Ud a) := by revert a; decide

theorem rdcr9Ud : Statement (.rdcr9Ud) := rfl

theorem rdcr10_11Ud (a : BitVec 1) : Statement (.rdcr10_11Ud a) := by revert a; decide

theorem rdcr12_15Ud (a : BitVec 2) : Statement (.rdcr12_15Ud a) := by revert a; decide

theorem wrdr0 (v : Word) : Statement (.wrdr0 v) := by
  change mkCmd 0x03#8 0x00#8 0#8 &&& 0xFFFFFFFF#32 = 0x03000000#32
  decide

theorem wrdr1 (v : Word) : Statement (.wrdr1 v) := by
  change mkCmd 0x03#8 0x01#8 0#8 &&& 0xFFFFFFFF#32 = 0x03010000#32
  decide

theorem wrdr2 (v : Word) : Statement (.wrdr2 v) := by
  change mkCmd 0x03#8 0x02#8 0#8 &&& 0xFFFFFFFF#32 = 0x03020000#32
  decide

theorem wrdr3 (v : Word) : Statement (.wrdr3 v) := by
  change mkCmd 0x03#8 0x03#8 0#8 &&& 0xFFFFFFFF#32 = 0x03030000#32
  decide

theorem wrdr4 (v : Word) : Statement (.wrdr4 v) := by
  change mkCmd 0x03#8 0x04#8 0#8 &&& 0xFFFFFFFF#32 = 0x03040000#32
  decide

theorem wrdr5 (v : Word) : Statement (.wrdr5 v) := by
  change mkCmd 0x03#8 0x05#8 0#8 &&& 0xFFFFFFFF#32 = 0x03050000#32
  decide

theorem wrdr6 (v : Word) : Statement (.wrdr6 v) := by
  change mkCmd 0x03#8 0x06#8 0#8 &&& 0xFFFFFFFF#32 = 0x03060000#32
  decide

theorem wrdr7 (v : Word) : Statement (.wrdr7 v) := by
  change mkCmd 0x03#8 0x07#8 0#8 &&& 0xFFFFFFFF#32 = 0x03070000#32
  decide

theorem wrdr8_15Ud (a : BitVec 3) : Statement (.wrdr8_15Ud a) := by revert a; decide

theorem rddr0 : Statement (.rddr0) := rfl

theorem rddr1 : Statement (.rddr1) := rfl

theorem rddr2 : Statement (.rddr2) := rfl

theorem rddr3 : Statement (.rddr3) := rfl

theorem rddr4 : Statement (.rddr4) := rfl

theorem rddr5 : Statement (.rddr5) := rfl

theorem rddr6 : Statement (.rddr6) := rfl

theorem rddr7 : Statement (.rddr7) := rfl

theorem rddr8_15Ud (a : BitVec 3) : Statement (.rddr8_15Ud a) := by revert a; decide

theorem wrefer (v : Word) : Statement (.wrefer v) := by
  change mkCmd 0x05#8 0#8 0#8 &&& 0xFFFFFFFF#32 = 0x05000000#32
  decide

theorem rdefer : Statement (.rdefer) := rfl

theorem wrxcr (i : BitVec 8) (v : Word) : Statement (.wrxcr i v) := by
  show mkCmd 0x07#8 i 0#8 &&& (0xFF#8 ++ 0x00#8 ++ 0xFF#8 ++ 0xFF#8) = _
  rw [mkCmd_and, BitVec.and_zero]
  rfl

theorem rdxcr (i : BitVec 8) : Statement (.rdxcr i) := by
  show mkCmd 0x08#8 i 0#8 &&& (0xFF#8 ++ 0x00#8 ++ 0xFF#8 ++ 0xFF#8) = _
  rw [mkCmd_and, BitVec.and_zero]
  rfl

theorem wrxss (v : Word) : Statement (.wrxss v) := by
  change mkCmd 0x09#8 0#8 0#8 &&& 0xFFFFFFFF#32 = 0x09000000#32
  decide

theorem rdxss : Statement (.rdxss) := rfl

theorem chkio (width : BitVec 8) (out rep : Bool) (port : Half) : Statement (.chkio width out rep port) := by
  show mkCmd 0x10#8 width (0#6 ++ BitVec.ofBool rep ++ BitVec.ofBool out) &&& (0xFF#8 ++ 0x00#8 ++ 0xFC#8 ++ 0xFF#8) = _
  rw [mkCmd_and, BitVec.and_zero]
  cases out <;> cases rep <;> rfl

theorem boundary : Statement (.boundary) := rfl

theorem inhibit (m : BitVec 2) : Statement (.inhibit m) := by revert m; decide

theorem signal (e : BitVec 4) (level : Bool) : Statement (.signal e level) := by
  revert e; cases level <;> decide

theorem evmask (e : BitVec 4) (mask : Bool) : Statement (.evmask e mask) := by
  revert e; cases mask <;> decide

theorem dbgtrap (b : Half) : Statement (.dbgtrap b) := by
  change mkCmd 0x24#8 0#8 0#8 &&& 0xFFFFFFFF#32 = 0x24000000#32
  decide

theorem activity (a : BitVec 3) : Statement (.activity a) := by revert a; decide

theorem raise (v : Vector8) (ec : Half) (addr : Word) : Statement (.raise v ec addr) := by
  show mkCmd 0x30#8 v 0#8 &&& (0xFF#8 ++ 0x00#8 ++ 0xFF#8 ++ 0xFF#8) = _
  rw [mkCmd_and, BitVec.and_zero]
  rfl

theorem int (v : Vector8) (type : BitVec 3) (pushError : Bool) (ec : Half) : Statement (.int v type pushError ec) := by
  show mkCmd 0x31#8 v (0#4 ++ BitVec.ofBool pushError ++ type) &&& (0xFF#8 ++ 0x00#8 ++ 0xF0#8 ++ 0xFF#8) = _
  rw [mkCmd_and, BitVec.and_zero]
  change _ ++ _ ++ _ ++ _ = 0x31000000#32
  clear v ec; revert type; cases pushError <;> decide

theorem instrStart : Statement (.instrStart) := rfl

theorem specRsp : Statement (.specRsp) := rfl

theorem commitRsp : Statement (.commitRsp) := rfl

end Sys2Proof.Laws.RowMatch
end

