-- ==== Sys2Proof/Laws/Taken.lean ====
section
/-! SUPPORT. An exception that neither exits nor escalates, from its entry to the end of its delivery: the tables of R264
as conditions, the state before the delivery, and what the whole leaves. -/

namespace Sys2Proof.Machine

theorem excInfo_etype : ∀ v : Vector8, v < 32#8 → (excInfo v).etype = classOf v := by decide

theorem excInfo_push : ∀ v : Vector8, v < 32#8 → (excInfo v).push = pushesCode v := by decide

theorem excInfo_kind : ∀ v : Vector8, v < 32#8 →
    ((excInfo v).kind == .fault) = !(decide (v = 3#8 ∨ v = 4#8 ∨ v = 18#8)) := by decide

theorem fixErrorCode_eq (v : Vector8) (ec : Half) (b : Bool) : fixErrorCode v ec b = fixedCode v ec b := by
  unfold fixErrorCode fixedCode
  by_cases h : v = 14#8 ∨ v = 8#8 ∨ v = 21#8
  · have : (v == 14#8 || v == 8#8 || v == 21#8) = true := by rcases h with h | h | h <;> simp [h]
    rw [if_pos this, if_pos h]
  · have : (v == 14#8 || v == 8#8 || v == 21#8) = false := by
      simp only [not_or] at h
      simp [h.1, h.2.1, h.2.2]
    rw [if_neg (by simp [this]), if_neg h]
    cases b <;> rfl

theorem run_askExc_pass {v : Vector8} {ec : Half} {p : Bool} {type : BitVec 3} {s : State}
    (h : plainAnswer s (.exc v ec p type s.exc.extBit s.exc.inEvent) = none) : askExc v ec p type s = .ok () s := by
  unfold askExc
  refine (run_bind_ok (run_get _)).trans ?_
  rw [h]
  rfl

theorem run_rollbackIfFault (v : Vector8) (h : v < 32#8) (s : State) :
    rollbackIfFault (excInfo v).kind v s = .ok () (rolledBack v s) := by
  unfold rollbackIfFault rolledBack
  rw [excInfo_kind v h]
  by_cases hv : v = 3#8 ∨ v = 4#8 ∨ v = 18#8
  · simp only [hv, decide_true, Bool.not_true, Bool.false_eq_true, if_false, if_true, run_pure]
  · simp only [hv, decide_false, Bool.not_false, if_true, if_false, run_modify]
    congr 1
    unfold rollback rollbackCtx
    by_cases h1 : v = 1#8
    · subst h1; rfl
    · have : (v == 1#8) = false := by simpa using h1
      simp only [this, h1, if_false, Bool.false_eq_true]
      rfl

theorem run_tripleIfDouble {s : State} (h : s.exc.lastType ≠ .doubleFault) : tripleIfDouble s = .ok () s := by
  unfold tripleIfDouble
  refine (run_bind_ok (run_get _)).trans ?_
  rw [if_neg (by simpa using h)]
  rfl

theorem run_commitIfDb (v : Vector8) (s : State) : commitIfDb v s = .ok () (debugCommitted v s) := by
  unfold commitIfDb debugCommitted
  by_cases h : v = 1#8
  · subst h; rfl
  · rw [if_neg (by simpa using h), if_neg h]; rfl

theorem nextClass_ok {last t : ExcClass} (h : t = .doubleFault ∨ last = .benign
    ∨ (last = .contributory ∧ t ≠ .contributory) ∨ (last = .pageFault ∧ t = .benign)) : nextClass last t = some t := by
  cases last <;> cases t <;> simp_all [nextClass, compatOk]

theorem rolledBack_exc (v : Vector8) (s : State) :
    (rolledBack v s).exc.lastType = s.exc.lastType := by
  unfold rolledBack
  split <;> rfl

theorem debugCommitted_exc (v : Vector8) (s : State) : (debugCommitted v s).exc = s.exc := by
  unfold debugCommitted
  split <;> rfl

/-- The stages before the delivery, where the exception neither exits nor escalates (R262). -/
theorem run_exceptionStage {s t : State} {v : Vector8} {ec : Half} (h : ExceptionTo s v ec t) :
    exceptionStage v ec s
      = .ok (.deliver (pushesCode v && (excStaged v s).mode != .real)
          (if (excStaged v s).mode = .real then 0#16 else fixedCode v ec s.exc.extBit)) (excStaged v s) := by
  unfold exceptionStage
  rw [show decide (32#8 ≤ v) = false by simpa using h.vector]
  refine (run_bind_ok (run_abortIf_false _ _)).trans ((run_bind_ok (run_get _)).trans ?_)
  rw [fixErrorCode_eq, excInfo_push v h.vector, excInfo_etype v h.vector]
  refine (run_bind_ok (run_askExc_pass h.notIntercepted)).trans ?_
  refine (run_bind_ok (run_rollbackIfFault v h.vector s)).trans ?_
  refine (run_bind_ok (run_tripleIfDouble (by rw [rolledBack_exc]; exact h.notDouble))).trans ?_
  refine (run_bind_ok (run_commitIfDb _ _)).trans ((run_bind_ok (run_modifyExc _ _)).trans ?_)
  unfold classify
  refine (run_bind_ok (run_get _)).trans ?_
  have hl : (State.setExc (debugCommitted v (rolledBack v s))
      { (debugCommitted v (rolledBack v s)).exc with extBit := true }).exc.lastType = s.exc.lastType := by
    show (debugCommitted v (rolledBack v s)).exc.lastType = _
    rw [debugCommitted_exc, rolledBack_exc]
  simp only [hl, nextClass_ok h.compatible]
  refine (run_bind_ok (run_modifyExc _ _)).trans ?_
  have hm : (State.setExc (debugCommitted v (rolledBack v s))
      { (debugCommitted v (rolledBack v s)).exc with extBit := true }).mode = (excStaged v s).mode := rfl
  rw [hm]
  change EStateM.Result.ok (if ((excStaged v s).mode == .real) = true then ExcStage.deliver false 0#16
    else ExcStage.deliver (pushesCode v) (fixedCode v ec s.exc.extBit)) (excStaged v s) = _
  generalize excStaged v s = u
  cases u.mode <;> simp

/-- An exception that is delivered and resolved (R262, R273). -/
theorem run_exception_ok {s t : State} {v : Vector8} {ec : Half} (k : Nat) (h : ExceptionTo s v ec t) :
    exception (k + 1) v ec s = .ok (.delivered v) t := by
  obtain ⟨u, hu, rfl⟩ := h.delivers
  unfold exception
  refine (run_bind_ok (run_exceptionStage h)).trans ?_
  simp only
  refine (run_onRaise_ok (deliver_ok hu)).trans ?_
  unfold resolved
  exact (run_bind_ok (run_modifyExc _ _)).trans rfl

end Sys2Proof.Machine
end

