-- ==== Sys2Proof/Tests/Slice0.lean ====
section
/-! SUPPORT. Tests of the model, one step each on a small state. The expected values are those of the worked examples
(R304, R346, R374) and of the vectors of spec/95_test_vectors.md, or are worked out by hand from the rule a test names.
After them, for each statement with hypotheses, a concrete state and operands that meet them all. -/

namespace Sys2Proof.Tests

set_option Elab.async false

open Sys2Proof.Machine

/-! ### Helpers -/

/-- The next state, if the outcome is one. -/
def nextOf (o : Host.Outcome State Fault Refusal) : Option State :=
  match o with
  | .next t => some t
  | _ => none

/-- Whether the outcome is a next state with the property `p`. -/
def ends (o : Host.Outcome State Fault Refusal) (p : State → Bool) : Bool :=
  match o with
  | .next t => p t
  | _ => false

theorem next_of_ends {o : Host.Outcome State Fault Refusal} {p : State → Bool} (h : ends o p = true) :
    ∃ t, o = .next t ∧ p t = true := by
  cases o with
  | next t => exact ⟨t, rfl, h⟩
  | fault r => simp [ends] at h
  | refused r => simp [ends] at h

/-- The response word and the result. -/
def answer (o : Host.Outcome State Fault Refusal) : Option (BitVec 32 × Word) :=
  (nextOf o).map fun t => (t.response.resp, t.response.res)

/-- What a command added to an empty history. -/
def events (o : Host.Outcome State Fault Refusal) : Option (List Event) := (nextOf o).map State.hist

/-- One control register, and the history, after a command. -/
def regAfter (f : ControlRegs → Word) (o : Host.Outcome State Fault Refusal) : Option (BitVec 32 × Word × List Event) :=
  (nextOf o).map fun t => (t.response.resp, f t.regs, t.hist)

/-- Where a delivery arrived: the response, RSP, RIP, RFLAGS, the CS selector and CPL. -/
def arrival (o : Host.Outcome State Fault Refusal) : Option (BitVec 32 × Word × Word × Word × Half × BitVec 2) :=
  (nextOf o).map fun t => (t.response.resp, t.ctx.rsp, t.ctx.rip, t.ctx.rflags, t.ctx.cs.sel, t.ctx.cpl)

/-- The scheduler state after a command, with its response. -/
def schedAfter (o : Host.Outcome State Fault Refusal) : Option (BitVec 32 × Sched) :=
  (nextOf o).map fun t => (t.response.resp, t.sched)

/-- Whether a command answers exactly what another answers. -/
def same (a b : Host.Outcome State Fault Refusal) : Bool := nextOf a == nextOf b

/-- The `n` bytes of `v` from address `addr` on. -/
def bytes (addr n v : Nat) : Memory :=
  ((List.range n).map fun i => (addr + i, BitVec.ofNat 8 (v >>> (8 * i)))).filter fun c => c.2 != 0#8

/-! ### States -/

/-- PROTECTED at level 0 with CR0 = 0x11 and no tables: the start of V1 to V6. -/
def prot : State := State.reset.setRegs { ControlRegs.reset with cr0 := 0x11#64 }

/-- `prot` with other control registers. -/
def withRegs (f : ControlRegs → ControlRegs) : State := prot.setRegs (f prot.regs)

/-- A state at another level. -/
def atCpl (l : BitVec 2) (s : State) : State := s.setCtx { s.ctx with cpl := l }

/-- A state with other flags. -/
def withFlags (f : Word) (s : State) : State := s.setCtx { s.ctx with rflags := f }

/-- A state with an intercept layer that is on. -/
def layered (n : Nested) (c : InterceptConfig) (s : State) : State :=
  { s with cfg := { s.cfg with nested := n }, inp := { s.inp with inGuest := true, icpt := c } }

/-- LONG64 at level 0: EFER = 0x500, CR4.PAE, CS.l. -/
def long0 : State :=
  let s := withRegs fun r => { r with cr0 := 0x80000011#64, cr4 := 0x20#64, efer := 0x500#64 }
  s.setCtx { s.ctx with cs := { s.ctx.cs with cache := { s.ctx.cs.cache with l := true } } }

/-- The tables of V9 ("tables T"), with a few more gates. -/
def tables : Memory :=
  bytes 0x1008 8 0x00108E000008B000 ++ bytes 0x1010 8 0x00108E0000084000 ++ bytes 0x1030 8 0x00108E0000081000
    ++ bytes 0x1040 8 0x00108E0000086000 ++ bytes 0x1058 8 0x00108E0000087000 ++ bytes 0x1068 8 0x00108E0000082000
    ++ bytes 0x1070 8 0x00108E0000088000 ++ bytes 0x1180 8 0x00108E0000085000 ++ bytes 0x1200 8 0x00100E0000083000
    ++ bytes 0x1208 8 0x00108F0000083000 ++ bytes 0x1210 8 0x0000850000180000 ++ bytes 0x1218 8 0x00108C0000083000
    ++ bytes 0x1220 8 0x0000860000083000 ++ bytes 0x1400 8 0x0010EE0000083000
    ++ bytes 0x2008 8 0x00CF9B000000FFFF ++ bytes 0x2010 8 0x00CF93000000FFFF ++ bytes 0x2018 8 0x0000890040000067
    ++ bytes 0x3004 4 0x00090000 ++ bytes 0x3008 2 0x0010 ++ bytes 0x3066 2 0x0068

/-- A 32-bit busy TSS in TR. -/
def tssReg (base : Word) (limit : BitVec 32) : SegReg :=
  ⟨0x28#16, true, { SegReg.resetTr.cache with base := base, limit := limit }⟩

/-- The ring 0 context of V9 on `tables`. -/
def ring0 : State :=
  { prot with
    ctx :=
      { Context.reset with
        cs := ⟨0x8#16, true, parseDesc 0x00CF9B000000FFFF#64⟩
        ss := ⟨0x10#16, true, parseDesc 0x00CF93000000FFFF#64⟩
        rsp := 0x9000#64
        rflags := 0x202#64
        rip := 0x100005#64
        tr := tssReg 0x3000#64 0x2068#32
        gdtr := ⟨0x2000#64, 0x3F#16⟩
        idtr := ⟨0x1000#64, 0x7FF#16⟩ }
    exc := { ExcState.reset with prevRip := 0x100000#64 }
    mem := tables }

/-- The start state of R346. -/
def ring3 : State :=
  { ring0 with
    ctx :=
      { ring0.ctx with
        cs := { ring0.ctx.cs with sel := 0x1B#16 }
        ss := { ring0.ctx.ss with sel := 0x23#16 }
        rsp := 0x7FF0#64
        rip := 0x401005#64
        cpl := 3#2 }
    exc := { ExcState.reset with prevRip := 0x401000#64 } }

/-- `ring3` with a 16-bit TSS whose stack for level 0 is 0010:5000. -/
def ring3Tss16 : State :=
  { ring3 with
    ctx := { ring3.ctx with tr := ⟨0x28#16, true, { SegReg.resetTr.cache with base := 0x3800#64, limit := 0x2B#32, type := 3#4 }⟩ }
    mem := tables ++ bytes 0x3802 4 0x00105000 }

/-- `ring3` in V8086 mode. -/
def virtual86 : State := withFlags 0x20202#64 ring3

/-- The start state of R304, and of V9.8 with IVT[13]. -/
def real : State :=
  { State.reset with
    ctx :=
      { Context.reset with
        cs := ⟨0x1000#16, true, { SegReg.resetCs.cache with base := 0x10000#64 }⟩
        rip := 0x102#64
        rsp := 0x400#64
        rflags := 0x202#64
        idtr := ⟨0#64, 0x3FF#16⟩ }
    exc := { ExcState.reset with prevRip := 0x100#64 }
    mem := bytes 0x34 4 0x00C02000 ++ bytes 0x84 4 0x00C01234 }

/-- The start state of R374; entry 4 uses IST 1, whose stack is 0xFFFF800000020000. -/
def long3 : State :=
  { long0 with
    ctx :=
      { Context.reset with
        cs := ⟨0x33#16, true, parseDesc 0x00AFFB000000FFFF#64⟩
        ss := { SegReg.resetData with sel := 0x2B#16 }
        rsp := 0x7FFFFFFFE008#64
        rflags := 0x246#64
        rip := 0x400011#64
        cpl := 3#2
        tr := tssReg 0x30000#64 0x67#32
        gdtr := ⟨0x20000#64, 0x7F#16⟩
        idtr := ⟨0x10000#64, 0xFFF#16⟩ }
    exc := { ExcState.reset with prevRip := 0x400010#64 }
    mem := bytes 0x10030 8 0xFFFFEF0000081000 ++ bytes 0x10038 8 0x00000000FFFFFFFF ++ bytes 0x10040 8 0xFFFFEE0100081000
      ++ bytes 0x10048 8 0x00000000FFFFFFFF ++ bytes 0x100D0 8 0xFFFF8E0000081000 ++ bytes 0x100D8 8 0x00000000FFFFFFFF
      ++ bytes 0x20008 8 0x00AF9B000000FFFF ++ bytes 0x30004 8 0xFFFF800000010008 ++ bytes 0x30024 8 0xFFFF800000020000 }

/-- The same at level 0. -/
def long0T : State := atCpl 0#2 long3

/-- The common start of V7, with `w` as the permission word of port 0x3F8. -/
def ioState (w : Nat) : State := { ring3 with mem := tables ++ bytes 0x30E7 2 w }

/-- Scheduler state with these pending and masked events. -/
def pendingIn (p m : BitVec 16) (s : State) : State := s.setSched { s.sched with pending := p, mask := m }

/-- A state in which the `n` bytes from `a` on are those of `x`; they go before the cells of the old memory. -/
def poked (a n x : Nat) (s : State) : State :=
  s.setMem (((List.range n).map fun i => (a + i, BitVec.ofNat 8 (x >>> (8 * i)))) ++ s.mem)

/-! ### Well-formedness: the one ill-formed shape is refused -/

theorem test_wf_refuses_fault_address_of_other_vector : (Instr.raise 13#8 0#16 1#64).wf = false := by decide

theorem test_wf_accepts_fault_address_of_page_fault : (Instr.raise 14#8 0#16 1#64).wf = true := by decide

/-- Each of the six checks of `Instr.bad` refuses one ill-formed term. -/
theorem test_bad_commands :
    [Instr.chkio 3#8 false false 0#16, .signal 3#4 true, .dbgtrap 0x10#16, .activity 6#3, .raise 32#8 0#16 0#64,
      .int 0x20#8 1#3 false 0#16].all Instr.bad = true := by decide

/-! ### Decoding: words written out from R100, R103, R104 to R106, one at least for every constructor -/

/-- Whether `CMD`, with these operands, decodes to `i`. -/
def decodesTo (cmd : BitVec 32) (opa opb : Word) (i : Instr) : Bool :=
  match decode ⟨cmd, opa, opb⟩ with
  | .ok j => j == i
  | .error _ => false

/-- Whether `CMD` is rejected for this reason. -/
def rejectedAs (cmd : BitVec 32) (e : DecodeError) : Bool :=
  match decode ⟨cmd, 0#64, 0#64⟩ with
  | .ok _ => false
  | .error d => d == e

theorem test_decode_wrcr :
    decodesTo 0b00000001_00000000_00000000_00000000#32 0x11#64 7#64 (.wrcr0 0x11#64)
      && decodesTo 0b00000001_00000010_00000000_00000000#32 0x12#64 7#64 (.wrcr2 0x12#64)
      && decodesTo 0b00000001_00000011_00000000_00000000#32 0x13#64 7#64 (.wrcr3 0x13#64)
      && decodesTo 0b00000001_00000100_00000000_00000000#32 0x14#64 7#64 (.wrcr4 0x14#64)
      && decodesTo 0b00000001_00001000_00000000_00000000#32 0x18#64 7#64 (.wrcr8 0x18#64) = true := by decide

theorem test_decode_wrcr_undefined :
    decodesTo 0b00000001_00000001_00000000_00000000#32 5#64 7#64 .wrcr1Ud
      && decodesTo 0b00000001_00000101_00000000_00000000#32 5#64 7#64 .wrcr5Ud
      && decodesTo 0b00000001_00000110_00000000_00000000#32 5#64 7#64 (.wrcr6_7Ud 0#1)
      && decodesTo 0b00000001_00000111_00000000_00000000#32 5#64 7#64 (.wrcr6_7Ud 1#1)
      && decodesTo 0b00000001_00001001_00000000_00000000#32 5#64 7#64 .wrcr9Ud
      && decodesTo 0b00000001_00001011_00000000_00000000#32 5#64 7#64 (.wrcr10_11Ud 1#1)
      && decodesTo 0b00000001_00001110_00000000_00000000#32 5#64 7#64 (.wrcr12_15Ud 2#2) = true := by decide

theorem test_decode_rdcr :
    decodesTo 0b00000010_00000000_00000000_00000000#32 5#64 7#64 .rdcr0
      && decodesTo 0b00000010_00000010_00000000_00000000#32 5#64 7#64 .rdcr2
      && decodesTo 0b00000010_00000011_00000000_00000000#32 5#64 7#64 .rdcr3
      && decodesTo 0b00000010_00000100_00000000_00000000#32 5#64 7#64 .rdcr4
      && decodesTo 0b00000010_00001000_00000000_00000000#32 5#64 7#64 .rdcr8
      && decodesTo 0b00000010_00000001_00000000_00000000#32 5#64 7#64 .rdcr1Ud
      && decodesTo 0b00000010_00000101_00000000_00000000#32 5#64 7#64 .rdcr5Ud
      && decodesTo 0b00000010_00000110_00000000_00000000#32 5#64 7#64 (.rdcr6_7Ud 0#1)
      && decodesTo 0b00000010_00001001_00000000_00000000#32 5#64 7#64 .rdcr9Ud
      && decodesTo 0b00000010_00001010_00000000_00000000#32 5#64 7#64 (.rdcr10_11Ud 0#1)
      && decodesTo 0b00000010_00001111_00000000_00000000#32 5#64 7#64 (.rdcr12_15Ud 3#2) = true := by decide

theorem test_decode_wrdr :
    decodesTo 0b00000011_00000000_00000000_00000000#32 0x20#64 7#64 (.wrdr0 0x20#64)
      && decodesTo 0b00000011_00000001_00000000_00000000#32 0x21#64 7#64 (.wrdr1 0x21#64)
      && decodesTo 0b00000011_00000010_00000000_00000000#32 0x22#64 7#64 (.wrdr2 0x22#64)
      && decodesTo 0b00000011_00000011_00000000_00000000#32 0x23#64 7#64 (.wrdr3 0x23#64)
      && decodesTo 0b00000011_00000100_00000000_00000000#32 0x24#64 7#64 (.wrdr4 0x24#64)
      && decodesTo 0b00000011_00000101_00000000_00000000#32 0x25#64 7#64 (.wrdr5 0x25#64)
      && decodesTo 0b00000011_00000110_00000000_00000000#32 0x26#64 7#64 (.wrdr6 0x26#64)
      && decodesTo 0b00000011_00000111_00000000_00000000#32 0x27#64 7#64 (.wrdr7 0x27#64)
      && decodesTo 0b00000011_00001101_00000000_00000000#32 0x28#64 7#64 (.wrdr8_15Ud 5#3) = true := by decide

theorem test_decode_rddr :
    decodesTo 0b00000100_00000000_00000000_00000000#32 5#64 7#64 .rddr0
      && decodesTo 0b00000100_00000001_00000000_00000000#32 5#64 7#64 .rddr1
      && decodesTo 0b00000100_00000010_00000000_00000000#32 5#64 7#64 .rddr2
      && decodesTo 0b00000100_00000011_00000000_00000000#32 5#64 7#64 .rddr3
      && decodesTo 0b00000100_00000100_00000000_00000000#32 5#64 7#64 .rddr4
      && decodesTo 0b00000100_00000101_00000000_00000000#32 5#64 7#64 .rddr5
      && decodesTo 0b00000100_00000110_00000000_00000000#32 5#64 7#64 .rddr6
      && decodesTo 0b00000100_00000111_00000000_00000000#32 5#64 7#64 .rddr7
      && decodesTo 0b00000100_00001111_00000000_00000000#32 5#64 7#64 (.rddr8_15Ud 7#3) = true := by decide

theorem test_decode_msr :
    decodesTo 0b00000101_00000000_00000000_00000000#32 0x500#64 7#64 (.wrefer 0x500#64)
      && decodesTo 0b00000110_00000000_00000000_00000000#32 5#64 7#64 .rdefer
      && decodesTo 0b00000111_00000001_00000000_00000000#32 0x7#64 7#64 (.wrxcr 1#8 0x7#64)
      && decodesTo 0b00001000_10000000_00000000_00000000#32 5#64 7#64 (.rdxcr 0x80#8)
      && decodesTo 0b00001001_00000000_00000000_00000000#32 0x100#64 7#64 (.wrxss 0x100#64)
      && decodesTo 0b00001010_00000000_00000000_00000000#32 5#64 7#64 .rdxss = true := by decide

theorem test_decode_io_and_events :
    decodesTo 0b00010000_00000010_00000001_00000000#32 0xF03F8#64 7#64 (.chkio 2#8 true false 0x3F8#16)
      && decodesTo 0b00010000_00000001_00000010_00000000#32 0x60#64 7#64 (.chkio 1#8 false true 0x60#16)
      && decodesTo 0b00100000_00000000_00000000_00000000#32 5#64 7#64 .boundary
      && decodesTo 0b00100001_00000000_00000010_00000000#32 5#64 7#64 (.inhibit 2#2)
      && decodesTo 0b00100010_00001010_00000001_00000000#32 5#64 7#64 (.signal 10#4 true)
      && decodesTo 0b00100011_00000001_00000000_00000000#32 5#64 7#64 (.evmask 1#4 false)
      && decodesTo 0b00100100_00000000_00000000_00000000#32 0x38002#64 7#64 (.dbgtrap 0x8002#16)
      && decodesTo 0b00100101_00000101_00000000_00000000#32 5#64 7#64 (.activity 5#3) = true := by decide

theorem test_decode_exceptions :
    decodesTo 0b00110000_00001110_00000000_00000000#32 0x30002#64 0xB8000#64 (.raise 14#8 2#16 0xB8000#64)
      && decodesTo 0b00110000_00001101_00000000_00000000#32 0x50#64 0xB8000#64 (.raise 13#8 0x50#16 0#64)
      && decodesTo 0b00110001_10000000_00000100_00000000#32 0x10007#64 7#64 (.int 0x80#8 4#3 false 7#16)
      && decodesTo 0b00110001_00000011_00001110_00000000#32 0#64 7#64 (.int 3#8 6#3 true 0#16)
      && decodesTo 0b01000000_00000000_00000000_00000000#32 5#64 7#64 .instrStart
      && decodesTo 0b01000001_00000000_00000000_00000000#32 5#64 7#64 .specRsp
      && decodesTo 0b01000010_00000000_00000000_00000000#32 5#64 7#64 .commitRsp = true := by decide

/-- R103, R115, and vectors V11.4 and V11.5. -/
theorem test_decode_rejects :
    rejectedAs 0x43000000#32 .undefinedOp && rejectedAs 0x20000001#32 .reservedZ && rejectedAs 0x01100000#32 .reservedA
      && rejectedAs 0x01000100#32 .reservedF && rejectedAs 0x03100000#32 .reservedA && rejectedAs 0x20010000#32 .reservedA
      && rejectedAs 0x21000400#32 .reservedF && rejectedAs 0x22100000#32 .reservedA && rejectedAs 0x25080000#32 .reservedA
      && rejectedAs 0x31001000#32 .reservedF && rejectedAs 0x10010400#32 .reservedF = true := by decide

/-! ### Configuration P0 and reset -/

theorem test_p0_masks :
    (cr4Allow Config.p0, eferAllow Config.p0, xcr0Allow Config.p0, xssAllow Config.p0)
      = (0x3727FF#64, 0x5D01#64, 0x7#64, 0#64) := by decide

theorem test_p0_wf : Config.p0.wf = true := by decide

theorem test_step_runs_placed_command :
    answer (step (State.reset.withFetchWord 32 0x02000000)) = some (0#32, 0x60000010#64) := by decide

theorem test_step_rejects_undefined_word :
    (nextOf (step (State.reset.withFetchWord 32 0x43000000))).map (fun t => (t.response.resp, t.aborted, t.hist))
      = some (0xF0000000#32, true, [.abort .badCommand]) := by decide

/-! ### Control registers (V1 to V3) -/

theorem test_wrcr0_normalises :
    regAfter (·.cr0) (exec (.wrcr0 0x7FFFFFEF#64) prot)
      = some (0#32, 0x6005003F#64, [.tlbFlush .all, .modeChange .prot]) := by decide +kernel

/-- V1.9: the four PDPTEs. -/
theorem test_wrcr0_loads_pdptes :
    regAfter (·.cr0) (exec (.wrcr0 0x80000011#64)
        { withRegs (fun r => { r with cr4 := 0x20#64, cr3 := 0x5000#64 }) with
          phys := bytes 0x5000 2 0x6001 ++ bytes 0x5008 2 0x7001 })
      = some (0#32, 0x80000011#64,
          [.memR 0x5000#64 8 .phys, .memR 0x5008#64 8 .phys, .memR 0x5010#64 8 .phys, .memR 0x5018#64 8 .phys,
            .pdptrLoad 0x6001#64 0x7001#64 0#64 0#64, .tlbFlush .all, .modeChange .prot]) := by decide +kernel

theorem test_wrcr2 : regAfter (·.cr2) (exec (.wrcr2 0xDEADBEEF#64) prot) = some (0#32, 0xDEADBEEF#64, []) := by decide +kernel

/-- V2.5: the hint bit. -/
theorem test_wrcr3_keeps_tlb_on_hint :
    regAfter (·.cr3) (exec (.wrcr3 0x8000000000002005#64) (long0.setRegs { long0.regs with cr4 := 0x200A0#64 }))
      = some (0#32, 0x2005#64, []) := by decide +kernel

theorem test_wrcr3_flushes_nonglobal :
    regAfter (·.cr3) (exec (.wrcr3 0x1000#64) (withRegs fun r => { r with cr4 := 0x80#64 }))
      = some (0#32, 0x1000#64, [.tlbFlush .nonglobal]) := by decide +kernel

theorem test_wrcr4_flushes_on_pge :
    regAfter (·.cr4) (exec (.wrcr4 0x90#64) (withRegs fun r => { r with cr0 := 0x80000011#64, cr4 := 0x10#64 }))
      = some (0#32, 0x90#64, [.tlbFlush .all, .modeChange .prot]) := by decide +kernel

theorem test_wrcr4_accepts_without_flush :
    regAfter (·.cr4) (exec (.wrcr4 0x40600#64) prot) = some (0#32, 0x40600#64, [.modeChange .prot]) := by decide +kernel

theorem test_wrcr8 :
    (nextOf (exec (.wrcr8 0x9#64) prot)).map (fun t => (t.response.resp, t.tpr, t.hist))
      = some (0#32, 0x90#8, [.setTpr 0x90#8]) := by decide +kernel

theorem test_rdcr :
    (answer (exec .rdcr0 prot), answer (exec .rdcr2 (withRegs fun r => { r with cr2 := 5#64 })),
        answer (exec .rdcr3 (withRegs fun r => { r with cr3 := 0x1000#64 })),
        answer (exec .rdcr4 (withRegs fun r => { r with cr4 := 0x20#64 })), answer (exec .rdcr8 (prot.setTpr 0x9F#8)))
      = (some (0#32, 0x11#64), some (0#32, 5#64), some (0#32, 0x1000#64), some (0#32, 0x20#64), some (0#32, 9#64)) := by
  decide +kernel

/-- R104, R105 with the delivery of R346: #UD at level 3 through IDT[6]. -/
theorem test_undefined_registers_deliver_ud :
    ([.wrcr1Ud, .wrcr5Ud, .wrcr6_7Ud 1#1, .wrcr9Ud, .wrcr10_11Ud 0#1, .wrcr12_15Ud 3#2, .rdcr1Ud, .rdcr5Ud,
        .rdcr6_7Ud 0#1, .rdcr9Ud, .rdcr10_11Ud 1#1, .rdcr12_15Ud 0#2, .wrdr8_15Ud 4#3, .rddr8_15Ud 0#3].map
      fun i => arrival (exec i ring3))
      = List.replicate 14 (some (0x20000006#32, 0x8FFEC#64, 0x101000#64, 2#64, 8#16, 0#2)) := by decide +kernel

/-! ### The rejections, each as the #GP, #UD or #DB it raises -/

/-- V1.3 to V1.5, V1.8, V1.11, V1.12, V2.6, V2.7, V2.10, V3.4, V3.5, V3.7, V3.8, V3.10, V3.11. -/
theorem test_control_register_rejections :
    [(.wrcr0 0x80000010#64, ring0), (.wrcr0 0x20000011#64, ring0), (.wrcr0 0x0000000100000011#64, ring0),
      (.wrcr0 0x11#64, ring3), (.wrcr0 0x80000011#64, ring0.setRegs { ring0.regs with efer := 0x100#64 }),
      (.wrcr0 0x11#64, long0T), (.wrcr3 0x8000000000002000#64, long0T), (.wrcr3 0x10000000000#64, long0T),
      (.wrcr8 0x10#64, ring0), (.wrcr4 0#64, long0T), (.wrcr4 0x800#64, ring0), (.wrcr4 0x20020#64, ring0),
      (.wrcr4 0x20020#64, long0T.setRegs { long0T.regs with cr3 := 0x1005#64 }),
      (.wrcr4 0#64, (ring0.setRegs { ring0.regs with cr4 := 0x2000#64 }).setInp { ring0.inp with inGuest := true }),
      (.wrcr4 0x2000#64, ring0.setInp { ring0.inp with inSmm := true }), (.rdcr4, ring3)].all
      (fun p => same (exec p.1 p.2) (exec (.raise 13#8 0#16 0#64) p.2)) = true := by decide +kernel

/-- V4.2, V4.5, V4.6, V4.8, V5.2 to V5.5, V5.7, V5.9, V5.10, V6.2, V6.6, V6.15. -/
theorem test_msr_and_debug_rejections :
    let x := ring0.setRegs { ring0.regs with cr4 := 0x40000#64 }
    [(.wrefer 0#64, long0T), (.wrefer 2#64, ring0), (.wrefer 0x2000#64, ring0), (.rdefer, ring3), (.wrxcr 0#8 6#64, x),
      (.wrxcr 0#8 5#64, x), (.wrxcr 0#8 9#64, x), (.wrxcr 1#8 1#64, x), (.wrxcr 0#8 1#64, atCpl 3#2 x), (.wrxss 0#64, ring0),
      (.rdxss, ring0), (.wrdr1 0x0000800000000000#64, long0T), (.wrdr6 0x100000000#64, ring0), (.rddr0, ring3)].all
      (fun p => same (exec p.1 p.2) (exec (.raise 13#8 0#16 0#64) p.2)) = true := by decide +kernel

/-- V5.6 and V6.11. -/
theorem test_ud_rejections :
    [(.wrxcr 0#8 1#64, ring3), (.rdxcr 0#8, ring3), (.rddr4, ring0.setRegs { ring0.regs with cr4 := 8#64 })].all
      (fun p => same (exec p.1 p.2) (exec (.raise 6#8 0#16 0#64) p.2)) = true := by decide +kernel

/-- V1.10: the second PDPTE is bad, so two reads and no load. -/
theorem test_wrcr0_bad_pdpte :
    (events (exec (.wrcr0 0x80000011#64)
        { ring0 with
          regs := { ring0.regs with cr4 := 0x20#64, cr3 := 0x5000#64 }
          phys := bytes 0x5000 2 0x6001 ++ bytes 0x5008 2 0x7007 })).map (List.take 3)
      = some [.memR 0x5000#64 8 .phys, .memR 0x5008#64 8 .phys, .memR 0x1068#64 8 .sys] := by decide +kernel

/-- V2.8: the first PDPTE is bad, so one read. -/
theorem test_wrcr3_bad_pdpte :
    (events (exec (.wrcr3 0x5000#64)
        { ring0 with
          regs := { ring0.regs with cr0 := 0x80000011#64, cr4 := 0x20#64 }, phys := bytes 0x5000 8 0x0000010000006001 })).map
        (List.take 2)
      = some [.memR 0x5000#64 8 .phys, .memR 0x1068#64 8 .sys] := by decide +kernel

/-! ### EFER, XCR0, XSS, debug registers (V4 to V6) -/

/-- V4.3: LMA keeps its old value. -/
theorem test_wrefer_keeps_lma :
    regAfter (·.efer) (exec (.wrefer 0x901#64) long0) = some (0#32, 0xD01#64, []) := by decide +kernel

/-- V4.4: LMA cannot be set. -/
theorem test_wrefer_cannot_set_lma :
    regAfter (·.efer) (exec (.wrefer 0x400#64) prot) = some (0#32, 0#64, []) := by decide +kernel

theorem test_rdefer : answer (exec .rdefer long0) = some (0#32, 0x500#64) := by decide +kernel

theorem test_wrxcr :
    regAfter (·.xcr0) (exec (.wrxcr 0#8 7#64) (withRegs fun r => { r with cr4 := 0x40000#64 }))
      = some (0#32, 7#64, [.modeChange .prot]) := by decide +kernel

theorem test_rdxcr_at_level_3 :
    answer (exec (.rdxcr 0#8) (atCpl 3#2 (withRegs fun r => { r with cr4 := 0x40000#64, xcr0 := 7#64 })))
      = some (0#32, 7#64) := by decide +kernel

/-- R169 to R171 on a part with XSAVES and PT, where XSS_ALLOW is 0x100. -/
theorem test_xss :
    let s := { prot with cfg := { Config.p0 with features := [.xsaves, .pt] } }
    regAfter (·.xss) (exec (.wrxss 0x100#64) s) = some (0#32, 0x100#64, [])
      ∧ answer (exec .rdxss (s.setRegs { s.regs with xss := 0x100#64 })) = some (0#32, 0x100#64) := by decide +kernel

/-- V6.1, V6.3, and the other two addresses. -/
theorem test_wrdr_addresses :
    regAfter (·.dr0) (exec (.wrdr0 0x1000#64) prot) = some (0#32, 0x1000#64, [])
      ∧ regAfter (·.dr1) (exec (.wrdr1 0xFFFF800000000000#64) long0) = some (0#32, 0xFFFF800000000000#64, [])
      ∧ regAfter (·.dr2) (exec (.wrdr2 0x2000#64) prot) = some (0#32, 0x2000#64, [])
      ∧ regAfter (·.dr3) (exec (.wrdr3 0x3000#64) prot) = some (0#32, 0x3000#64, []) := by decide +kernel

/-- V6.4, V6.5, V6.7, V6.8, V6.10, and the alias DR4. -/
theorem test_wrdr_status_and_control :
    regAfter (·.dr6) (exec (.wrdr6 0xFFFFFFFF#64) prot) = some (0#32, 0xFFFFEFFF#64, [])
      ∧ regAfter (·.dr6) (exec (.wrdr4 0x2#64) prot) = some (0#32, 0xFFFF0FF2#64, [])
      ∧ regAfter (·.dr7) (exec (.wrdr7 0xFFFF#64) prot) = some (0#32, 0x2FFF#64, [])
      ∧ regAfter (·.dr7) (exec (.wrdr7 0#64) prot) = some (0#32, 0x400#64, [])
      ∧ regAfter (·.dr7) (exec (.wrdr5 0x401#64) prot) = some (0#32, 0x401#64, []) := by decide +kernel

theorem test_rddr :
    let s := withRegs fun r => { r with dr0 := 1#64, dr1 := 2#64, dr2 := 3#64, dr3 := 4#64 }
    ([.rddr0, .rddr1, .rddr2, .rddr3, .rddr4, .rddr5, .rddr6, .rddr7].map fun i => answer (exec i s))
      = [1#64, 2#64, 3#64, 4#64, 0xFFFF0FF0#64, 0x400#64, 0xFFFF0FF0#64, 0x400#64].map fun v => some (0#32, v) := by decide +kernel

/-- V6.13: the general-detect #DB, delivered on `tables`. -/
theorem test_general_detect :
    (nextOf (exec .rddr7 (ring0.setRegs { ring0.regs with dr7 := 0x2400#64 }))).map
        (fun t => (t.response.resp, t.regs.dr6, t.regs.dr7, t.sched.debugTrap, t.ctx.rip))
      = some (0x20000001#32, 0xFFFF2FF0#64, 0x400#64, 0#16, 0x10B000#64) := by decide +kernel

/-! ### I/O permission (V7) -/

/-- V7.1, V7.2, V7.5, V7.6, V7.7, V7.8, V7.14: the permission word, the port, the width and the answer. -/
theorem test_chkio_bits :
    ([(0x0000, 1#8, 0x3F8#16), (0x0001, 1#8, 0x3F8#16), (0x0002, 1#8, 0x3F8#16), (0x0002, 2#8, 0x3F8#16),
        (0x0400, 4#8, 0x3FF#16), (0x0800, 4#8, 0x3FF#16), (0x0000, 3#8, 0x3F8#16)].map fun p =>
      (nextOf (exec (.chkio p.2.1 true false p.2.2) (ioState p.1))).map State.kind)
      = [some 0#4, some 1#4, some 0#4, some 1#4, some 1#4, some 0#4, some 15#4] := by decide +kernel

/-- V7.13: an I/O breakpoint. -/
theorem test_chkio_breakpoint :
    (schedAfter (exec (.chkio 1#8 true false 0x3F8#16)
        ((ioState 0).setRegs { ring3.regs with cr4 := 8#64, dr0 := 0x3F8#64, dr7 := 0x20401#64 }))).map
        (fun r => (r.1, r.2.debugTrap)) = some (0#32, 1#16) := by decide +kernel

/-! ### Feeders and snapshots (V8, V11) -/

theorem test_signal :
    schedAfter (exec (.signal 0#4 true) prot) = some (0#32, { Sched.reset with pending := 1#16 })
      ∧ schedAfter (exec (.signal 10#4 false) (pendingIn 0x401#16 0#16 prot))
        = some (0#32, { Sched.reset with pending := 1#16 }) := by decide +kernel

theorem test_evmask :
    schedAfter (exec (.evmask 0#4 false) (pendingIn 0#16 3#16 prot)) = some (0#32, { Sched.reset with mask := 2#16 })
      ∧ schedAfter (exec (.evmask 15#4 true) prot) = some (0#32, { Sched.reset with mask := 0x8000#16 }) := by decide +kernel

theorem test_inhibit : schedAfter (exec (.inhibit 3#2) prot) = some (0#32, { Sched.reset with inhibit := 3#2 }) := by decide +kernel

theorem test_dbgtrap :
    schedAfter (exec (.dbgtrap 0x8002#16) (prot.setSched { Sched.reset with debugTrap := 1#16 }))
      = some (0#32, { Sched.reset with debugTrap := 0x8003#16 }) := by decide +kernel

/-- V8.8. -/
theorem test_activity_shutdown :
    (nextOf (exec (.activity 2#3) (withFlags 0x202#64 prot))).map
        (fun t => (t.response.resp, t.sched.activity, t.ctx.rflags)) = some (0#32, .shutdown, 2#64) := by decide +kernel

theorem test_snapshots :
    (nextOf (exec .instrStart (ring0.setExc { ring0.exc with specRsp := true }))).map State.exc
        = some { ring0.exc with prevRip := 0x100005#64 }
      ∧ (nextOf (exec .specRsp ring0)).map State.exc = some { ring0.exc with prevRsp := 0x9000#64, specRsp := true }
      ∧ (nextOf (exec .commitRsp (ring0.setExc { ring0.exc with specRsp := true, prevRsp := 7#64 }))).map State.exc
        = some { ring0.exc with prevRsp := 7#64 } := by decide +kernel

/-! ### The per-boundary pass (V8, P3) -/

/-- V8.9, V8.10, V8.11, V8.13, V8.14, V8.15, V8.19, V8.22, V9.3 and P3: the kind each pass ends in, its vector, and what
stays pending. -/
theorem test_boundary_outcomes :
    ([(pendingIn 0#16 0#16 ring0), (pendingIn 1#16 0#16 ring0).setInp { ring0.inp with killRequest := true },
        ring0.setSched { Sched.reset with activity := .hlt },
        withFlags 2#64 (ring0.setSched { Sched.reset with activity := .mwaitIf, pending := 0x400#16 }),
        ring0.setSched { Sched.reset with activity := .waitForSipi, pending := 1#16 },
        ring0.setSched { Sched.reset with activity := .shutdown, pending := 4#16 }, pendingIn 3#16 0#16 ring0,
        pendingIn 0x8000#16 0#16 ring0, pendingIn 0x401#16 0#16 ring0, pendingIn 1#16 1#16 ring0].map fun s =>
      (nextOf (exec .boundary s)).map fun t => (t.response.resp, t.sched.pending))
      = [some (0#32, 0#16), some (0x50000000#32, 1#16), some (0x40000000#32, 0#16), some (0#32, 0x400#16),
          some (0x40000000#32, 1#16), some (0x60000000#32, 0#16), some (0x80000000#32, 1#16), some (0#32, 0#16),
          some (0x20000002#32, 0x400#16), some (0#32, 1#16)] := by decide +kernel

/-- V8.16 and V8.17. -/
theorem test_boundary_debug_trap :
    schedAfter (exec .boundary (withFlags 0x302#64 (prot.setSched { Sched.reset with debugTrap := 0x4000#16, inhibit := 3#2 })))
        = some (0#32, { Sched.reset with debugTrap := 0x4000#16 })
      ∧ (nextOf (exec .boundary (ring0.setSched { Sched.reset with debugTrap := 0x4000#16 }))).map
        (fun t => (t.response.resp, t.regs.dr6, t.sched.debugTrap)) = some (0x20000001#32, 0xFFFF4FF0#64, 0#16) := by decide +kernel

/-! ### Exceptions and deliveries (V9, V10) -/

/-- R346. -/
theorem test_raise_inner :
    arrival (exec (.raise 13#8 0#16 0#64) ring3) = some (0x2000000D#32, 0x8FFE8#64, 0x102000#64, 2#64, 8#16, 0#2)
      ∧ events (exec (.raise 13#8 0#16 0#64) ring3)
        = some [.memR 0x1068#64 8 .sys, .memR 0x2008#64 8 .sys, .memR 0x3008#64 2 .sys, .memR 0x3004#64 4 .sys,
            .memR 0x2010#64 8 .sys, .memW 0x8FFFC#64 4 0x23#64 (.stack 0#2), .memW 0x8FFF8#64 4 0x7FF0#64 (.stack 0#2),
            .memW 0x8FFF4#64 4 0x10202#64 (.stack 0#2), .memW 0x8FFF0#64 4 0x1B#64 (.stack 0#2),
            .memW 0x8FFEC#64 4 0x401000#64 (.stack 0#2), .memW 0x8FFE8#64 4 0#64 (.stack 0#2), .delivered 13#8 3#3] := by
  decide +kernel

/-- V9.4, V9.5a, V9.5d, V9.6, V9.7, V9.8: escalation, page faults during a delivery, the triple fault, a bad vector, and
a delivery in real mode. -/
theorem test_raise_outcomes :
    let limited (l : BitVec 16) : State := ring0.setCtx { ring0.ctx with idtr := ⟨0x1000#64, l⟩ }
    ([(.raise 13#8 0#16 0#64, limited 0x67#16), (.raise 14#8 2#16 0xB8000#64, ring0.setPort [some 0#16]),
        (.raise 13#8 0#16 0#64, ring0.setPort [some 0#16]), (.raise 13#8 0#16 0#64, limited 0x3F#16),
        (.raise 32#8 0#16 0#64, ring0), (.raise 13#8 0x50#16 0#64, real)].map fun p =>
      (nextOf (exec p.1 p.2)).map fun t => (t.response.resp, t.regs.cr2, t.ctx.rsp, t.ctx.rip))
      = [some (0x20000008#32, 0#64, 0x8FF0#64, 0x106000#64), some (0x20000008#32, 0x1070#64, 0x8FF0#64, 0x106000#64),
          some (0x2000000E#32, 0x1068#64, 0x8FF0#64, 0x108000#64), some (0x60000000#32, 0#64, 0#64, 0xFFF0#64),
          some (0xF0000000#32, 0#64, 0x9000#64, 0x100005#64), some (0x2000000D#32, 0#64, 0x3FA#64, 0x2000#64)] := by decide +kernel

/-- R304, V10.3, V10.4, V10.5, V10.8, V10.9, R374, and IST 1 (R364). -/
theorem test_int_arrivals :
    ([(.int 0x21#8 4#3 false 0#16, real), (.int 0x80#8 4#3 false 0#16, ring3), (.int 0x30#8 4#3 false 0#16, ring3),
        (.int 1#8 5#3 false 0#16, ring3), (.int 0x40#8 4#3 false 0#16, ring0), (.int 0x41#8 4#3 false 0#16, ring0),
        (.int 3#8 6#3 false 0#16, long3), (.int 4#8 6#3 false 0#16, long3)].map fun p => arrival (exec p.1 p.2))
      = [some (0x20000021#32, 0x3FA#64, 0x1234#64, 2#64, 0xC0#16, 0#2),
          some (0x20000080#32, 0x8FFEC#64, 0x103000#64, 2#64, 8#16, 0#2),
          some (0x2000000D#32, 0x8FFE8#64, 0x102000#64, 2#64, 8#16, 0#2),
          some (0x20000001#32, 0x8FFEC#64, 0x10B000#64, 2#64, 8#16, 0#2),
          some (0x2000000B#32, 0x8FF0#64, 0x107000#64, 2#64, 8#16, 0#2),
          some (0x20000041#32, 0x8FF4#64, 0x103000#64, 0x202#64, 8#16, 0#2),
          some (0x20000003#32, 0xFFFF80000000FFD8#64, 0xFFFFFFFFFFFF1000#64, 0x246#64, 8#16, 0#2),
          some (0x20000004#32, 0xFFFF80000001FFD8#64, 0xFFFFFFFFFFFF1000#64, 0x46#64, 8#16, 0#2)] := by decide +kernel

/-- R330. -/
theorem test_int_task_gate :
    answer (exec (.int 0x42#8 4#3 false 0#16) ring0) = some (0x90000042#32, 0x18#64) := by decide +kernel

/-- R332 with a 16-bit TSS, R335 and R343 from V8086. -/
theorem test_int_tss16_and_v86 :
    ([ring3Tss16, virtual86].map fun s => arrival (exec (.int 0x80#8 4#3 false 0#16) s))
      = [some (0x20000080#32, 0x4FEC#64, 0x103000#64, 2#64, 8#16, 0#2),
          some (0x20000080#32, 0x8FFDC#64, 0x103000#64, 2#64, 8#16, 0#2)] := by decide +kernel

/-! ### The VMX host's part of the APIC (R150, R211, R232) -/

/-- Outside a guest the VMX host's trap exits; without a VMX host it passes, and the pass goes on to its end. -/
theorem test_apic_trap :
    let s := pendingIn 0x4000#16 0#16
      { ring0 with inp := { ring0.inp with apicTraps := [(14, ⟨.layer 7, 0x77#64⟩)] } }
    (events (exec .boundary { s with cfg := { s.cfg with nested := .vmx } }), answer (exec .boundary s))
      = (some [.vmExit (.layer 7) 0x77#64], some (0#32, 0#64)) := by decide +kernel

/-- A layer that handles a CR8 write and would set VMX_VTPR does so under VMX alone. -/
theorem test_cr8_handled_sets_vtpr_under_vmx :
    let s := fun n => layered n { Inputs.reset.icpt with regs := [(.cr .cr8 .write 0#64 5#64, .handled 0#64 true)] } prot
    ((schedAfter (exec (.wrcr8 5#64) (s .vmx))).map fun a => a.2.pending,
        (schedAfter (exec (.wrcr8 5#64) (s .svm))).map fun a => a.2.pending)
      = (some 0x1000#16, some 0#16) := by decide +kernel

/-! ### Other agents -/

/-- R59: under SVM the two guest bits go together, elsewhere there is no SVM guest. -/
theorem test_guest_bits :
    let s := layered .svm ⟨false, false, 0#64, [], []⟩ prot
    let guest := fun s : State => (s.inp.inGuest, s.inp.inSvmGuest)
    (guest (hostStep (.setInGuest true) s), guest (hostStep (.setInSvmGuest false) s),
        guest (hostStep (.setInGuest true) prot), guest (hostStep (.setInSvmGuest true) prot))
      = ((true, true), (false, false), (true, false), (false, false)) := by decide

/-- R427: BENIGN after every task switch. -/
theorem test_task_switch_done :
    (hostStep (.taskSwitchDone 13#8 3#3)
        (ring0.setExc { ring0.exc with inEvent := true, extBit := true, lastType := .contributory })).exc.lastType
      = .benign := by decide

/-! ### The hypotheses of the statements can be met: helpers -/

theorem noAnswers {s : State} (h : s.port = []) : s.portOk := by
  intro a ha
  rw [h] at ha
  cases ha

theorem upTo {P : Nat → Prop} (n : Nat) (h : ∀ k, k < n + 1 → 1 ≤ k → P k) : ∀ k, 1 ≤ k → k ≤ n → P k :=
  fun k low high => h k (Nat.lt_succ_of_le high) low

theorem evOn_of {s : State} {e : Nat} (h : (s.sched.pending.getLsbD e && !s.sched.mask.getLsbD e) = true) : evOn s e := by
  simpa [evOn] using h

theorem not_evOn {s : State} {e : Nat} (h : (s.sched.pending.getLsbD e && !s.sched.mask.getLsbD e) = false) :
    ¬evOn s e := by
  rintro ⟨hp, hm⟩
  simp [hp, hm] at h

/-- A pass with no SMI, INIT, MTF, APIC trap or task-switch trap, and no other debug trap but an inhibited one, gets to
step 6. -/
theorem atStep6_of {s : State} {p d : BitVec 16} {i : BitVec 2} (hs : s.sched = ⟨p, 0#16, d, i, .active⟩)
    (ha : s.aborted = false) (hk : s.inp.killRequest = false) (h : p &&& 0x7016#16 = 0#16)
    (hd : d.getLsbD 15 = false := by rfl) (ht : d = 0#16 ∨ i.getLsbD 1 = true := by decide) : AtStep6 s := by
  have off : ∀ e, (0x7016#16).getLsbD e = true → ¬evOn s e := fun e he => by
    rintro ⟨hp, -⟩
    have hb := congrArg (fun b => b.getLsbD e) h
    rw [hs] at hp
    have hp' : p.getLsbD e = true := hp
    simp [hp', he] at hb
  exact ⟨⟨⟨⟨ha, by rw [hs], hk⟩, by rw [hs]; exact hd, off 12 rfl, off 13 rfl, off 14 rfl⟩,
    fun h => absurd h (off 1 rfl), fun h => absurd h (off 2 rfl), off 4 rfl⟩, by rw [hs]; exact ht⟩

/-- The same with step 6 open, outside SVM. -/
theorem step6Open_of {s : State} {p d : BitVec 16} {i : BitVec 2} (hs : s.sched = ⟨p, 0#16, d, i, .active⟩)
    (ha : s.aborted = false) (hk : s.inp.killRequest = false) (h : p &&& 0x7016#16 = 0#16) (hn : s.cfg.nested ≠ .svm)
    (hd : d.getLsbD 15 = false := by rfl) (ht : d = 0#16 ∨ i.getLsbD 1 = true := by decide)
    (hi : i.getLsbD 0 = false := by rfl) : Step6Open s :=
  ⟨atStep6_of hs ha hk h hd ht, by rw [hs]; exact hi, Or.inl hn⟩

/-- The layer used below: it lets nothing pass that it lists. -/
def exit7 : ExitInfo := ⟨.layer 7, 0x77#64⟩

/-- A state under VMX whose layer answers these queries. -/
def vmx (r : List (RegQuery × RegAnswer)) (p : List (PlainQuery × ExitInfo)) (s : State) : State :=
  layered .vmx ⟨false, false, 0#64, r, p⟩ s

/-- The same under SVM, in an SVM guest. -/
def svm (c : InterceptConfig) (s : State) : State :=
  let t := layered .svm c s
  t.setInp { t.inp with inSvmGuest := true }

/-- The layer with nothing to intercept. -/
def open' : InterceptConfig := ⟨false, false, 0#64, [], []⟩

/-- A part without extensions. -/
def bare : Config := { Config.p0 with features := [] }

/-! ### Encoding, steps, the whole machine -/

theorem witness_DecodeEncode :
    (Instr.raise 14#8 6#16 0x1000#64).wf = true ∧ (Instr.raise 13#8 6#16 0#64).wf = true ∧ Instr.boundary.wf = true := by
  decide

theorem witness_DecodedWordIsEncodedWord :
    decode ⟨0x300D0000#32, 0xFFFF0010#64, 9#64⟩ = .ok (.raise 13#8 0x10#16 0#64) := rfl

theorem witness_StepPerformsTheOldestRequest :
    (let s := prot.setQueue [.command ⟨0x20000000#32, 0#64, 0#64⟩];
      s.queue = .command ⟨0x20000000#32, 0#64, 0#64⟩ :: [] ∧ decode ⟨0x20000000#32, 0#64, 0#64⟩ = .ok .boundary)
      ∧ (let s := prot.setQueue [.command ⟨1#32, 0#64, 0#64⟩]
        s.queue = .command ⟨1#32, 0#64, 0#64⟩ :: [] ∧ decode ⟨1#32, 0#64, 0#64⟩ = .error .reservedZ ∧ s.aborted = false)
      ∧ (prot.setQueue [.host .platformReset]).queue = [.host .platformReset] ∧ prot.queue = [] :=
  ⟨⟨rfl, rfl⟩, ⟨rfl, rfl, rfl⟩, rfl, rfl⟩

/-- LONG64, COMPAT, REAL, V8086, PROTECTED. -/
theorem witness_OperatingMode :
    (long0.regs.efer.getLsbD 10 = true ∧ long0.ctx.cs.cache.l = true)
      ∧ (let s := long0.setCtx Context.reset
        s.regs.efer.getLsbD 10 = true ∧ s.ctx.cs.cache.l = false)
      ∧ (real.regs.efer.getLsbD 10 = false ∧ real.regs.cr0.getLsbD 0 = false)
      ∧ (virtual86.regs.efer.getLsbD 10 = false ∧ virtual86.regs.cr0.getLsbD 0 = true
        ∧ virtual86.ctx.rflags.getLsbD 17 = true)
      ∧ (ring0.regs.efer.getLsbD 10 = false ∧ ring0.regs.cr0.getLsbD 0 = true ∧ ring0.ctx.rflags.getLsbD 17 = false) := by
  decide

theorem prot_regsOk : RegsOk Config.p0 prot.regs := by constructor <;> decide

/-- A state with the invariant from which a command changes a register. -/
theorem witness_StepKeepsInvariant :
    let s := placeCommand ⟨0x01040000#32, 0x20#64, 0#64⟩ prot
    Machine.Inv s ∧ ∃ t, step s = .next t ∧ (t.regs.cr4 == 0x20#64) = true :=
  ⟨⟨prot_regsOk, by constructor <;> decide, by constructor <;> decide, rfl, rfl⟩, next_of_ends (by decide +kernel)⟩

theorem witness_StepAlwaysAnswers : prot.cfg.cetSupported = false := rfl

/-- An aborted state; a command that aborts; a shutdown; the reset that clears `aborted`. -/
theorem witness_AbortedAnswersAbort :
    (prot.setAborted true).aborted = true
      ∧ (∃ t, exec (.raise 32#8 0#16 0#64) prot = .next t ∧ (t.kind == 15#4) = true)
      ∧ (∃ t, exec (.raise 13#8 0#16 0#64)
          { prot with cfg := { Config.p0 with tripleFaultAction := .shutdown }, exc := { prot.exc with lastType := .doubleFault } }
        = .next t ∧ (t.kind == 7#4) = true)
      ∧ ∃ t, step ((prot.setAborted true).setQueue [.host .platformReset]) = .next t ∧ (!t.aborted) = true :=
  ⟨rfl, next_of_ends (by decide +kernel), next_of_ends (by decide +kernel), next_of_ends (by decide +kernel)⟩

theorem witness_NoDeliveryBetweenCommands :
    ring3.exc.Idle ∧ ∃ t, exec (.raise 13#8 0#16 0#64) ring3 = .next t ∧ (t.kind == 2#4) = true :=
  ⟨⟨rfl, rfl, rfl⟩, next_of_ends (by decide +kernel)⟩

/-- A write of CR0 at level 3, and a command that is no write of a system register. -/
theorem witness_SystemRegistersAreGuarded :
    (ring3.ctx.cpl ≠ 0#2 ∧ ∃ t, exec (.wrcr0 0x11#64) ring3 = .next t ∧ (t.kind == 2#4) = true)
      ∧ systemWrite .boundary = false
      ∧ ∃ t, exec .boundary (pendingIn 1#16 0#16 ring0) = .next t ∧ (t.kind == 2#4) = true :=
  ⟨⟨by decide, next_of_ends (by decide +kernel)⟩, rfl, next_of_ends (by decide +kernel)⟩

/-- P2 line 4. -/
theorem witness_LmaChangesOnlyWithPaging :
    let s := withRegs fun r => { r with cr4 := 0x20#64, efer := 0x100#64 }
    ∃ t, exec (.wrcr0 0x80000011#64) s = .next t ∧ (t.regs.lma != s.regs.lma && t.kind == 0#4) = true :=
  next_of_ends (by decide +kernel)

theorem witness_HistoryOnlyGrows :
    ∃ t, exec (.wrcr0 0x7FFFFFEF#64) prot = .next t ∧ (t.hist == [.tlbFlush .all, .modeChange .prot]) = true :=
  next_of_ends (by decide +kernel)

/-- One command for each of the five kinds. -/
theorem witness_OnlyDeliveriesStore :
    (∃ t, exec .rdcr0 ring0 = .next t ∧ (t.kind == 0#4) = true)
      ∧ (∃ t, exec (.chkio 1#8 true false 0x3F8#16) (ioState 1) = .next t ∧ (t.kind == 1#4) = true)
      ∧ (∃ t, exec .boundary (ring0.setSched { Sched.reset with activity := .hlt }) = .next t ∧ (t.kind == 4#4) = true)
      ∧ (∃ t, exec .boundary (ring0.setInp { ring0.inp with killRequest := true }) = .next t ∧ (t.kind == 5#4) = true)
      ∧ ∃ t, exec .boundary (pendingIn 2#16 0#16 ring0) = .next t ∧ (t.kind == 8#4) = true :=
  ⟨next_of_ends (by decide +kernel), next_of_ends (by decide +kernel), next_of_ends (by decide +kernel),
    next_of_ends (by decide +kernel), next_of_ends (by decide +kernel)⟩

/-! ### Control registers -/

theorem prot_super : Supervisor prot := ⟨rfl, rfl⟩

theorem prot_cr0_accepts (v : Word) (h : v = 0x7FFFFFEF#64 ∨ v = 0x11#64) : Cr0Accepts prot v := by
  rcases h with rfl | rfl <;>
    exact ⟨⟨by decide, by decide, by decide, by decide⟩, by unfold LongEntryOk; decide, by unfold LongExitOk; decide,
      fun h => absurd h (by decide)⟩

/-- V1.2, then V1.9 with its PDPTEs, then the entry to long mode of P2. -/
theorem witness_WrCr0Accepts :
    (Supervisor prot ∧ icptCr prot .cr0 .write prot.regs.cr0 (cr0Value prot.cfg.cpuLevel 0x7FFFFFEF#64) = .pass
        ∧ Cr0Accepts prot 0x7FFFFFEF#64)
      ∧ (let s := { withRegs (fun r => { r with cr4 := 0x20#64, cr3 := 0x5000#64 }) with
          phys := bytes 0x5000 2 0x6001 ++ bytes 0x5008 2 0x7001 }
        Supervisor s ∧ icptCr s .cr0 .write s.regs.cr0 (cr0Value s.cfg.cpuLevel 0x80000011#64) = .pass
          ∧ cr0Walks s 0x80000011#64 = true ∧ Cr0Accepts s 0x80000011#64)
      ∧ (let s := withRegs fun r => { r with cr4 := 0x20#64, efer := 0x100#64 }
        Supervisor s ∧ icptCr s .cr0 .write s.regs.cr0 (cr0Value s.cfg.cpuLevel 0x80000011#64) = .pass
          ∧ Cr0Accepts s 0x80000011#64) :=
  ⟨⟨prot_super, rfl, prot_cr0_accepts _ (Or.inl rfl)⟩,
    ⟨⟨rfl, rfl⟩, rfl, by decide, ⟨by decide, by decide, by decide, by decide⟩, by unfold LongEntryOk; decide,
      by unfold LongExitOk; decide, fun _ => by unfold PdptesOk pdpteOk; decide +kernel⟩,
    ⟨rfl, rfl⟩, rfl, ⟨by decide, by decide, by decide, by decide⟩, by unfold LongEntryOk; decide,
    by unfold LongExitOk; decide, fun h => absurd h (by decide)⟩

/-- Level 3, then V1.4, V1.11 and V1.12. -/
theorem witness_WrCr0Rejects :
    ring3.ctx.cpl ≠ 0#2
      ∧ (Supervisor prot ∧ icptCr prot .cr0 .write prot.regs.cr0 (cr0Value prot.cfg.cpuLevel 0x20000011#64) = .pass
        ∧ ¬Cr0Legal prot 0x20000011#64)
      ∧ (let s := withRegs fun r => { r with efer := 0x100#64 }
        Supervisor s ∧ icptCr s .cr0 .write s.regs.cr0 (cr0Value s.cfg.cpuLevel 0x80000011#64) = .pass
          ∧ ¬LongEntryOk s 0x80000011#64)
      ∧ (Supervisor long0 ∧ icptCr long0 .cr0 .write long0.regs.cr0 (cr0Value long0.cfg.cpuLevel 0x11#64) = .pass
        ∧ ¬LongExitOk long0 0x11#64) :=
  ⟨by decide, ⟨⟨rfl, rfl⟩, rfl, fun h => absurd (h.nw (by decide)) (by decide)⟩,
    ⟨⟨rfl, rfl⟩, rfl, by unfold LongEntryOk; decide⟩, ⟨rfl, rfl⟩, rfl, by unfold LongExitOk; decide⟩

/-- The plain intercept; the selective one with a change of WP; neither, with only TS and MP changed, not handled and
handled; not in an SVM guest. -/
theorem witness_SvmCr0Intercept :
    (let s := svm { open' with cr0Write := true } prot;
      Supervisor s ∧ s.cfg.nested = .svm ∧ s.inp.inGuest = true ∧ s.inp.inSvmGuest = true ∧ s.inp.icpt.cr0Write = true)
      ∧ (let s := svm { open' with cr0SelWrite := true } prot
        Supervisor s ∧ s.cfg.nested = .svm ∧ s.inp.inGuest = true ∧ s.inp.inSvmGuest = true ∧ s.inp.icpt.cr0Write = false
          ∧ s.inp.icpt.cr0SelWrite = true
          ∧ ∃ i, i ≠ 1 ∧ i ≠ 3 ∧ s.regs.cr0.getLsbD i ≠ (cr0Value s.cfg.cpuLevel 0x10011#64).getLsbD i)
      ∧ (let s := svm { open' with cr0SelWrite := true } prot
        Supervisor s ∧ s.cfg.nested = .svm ∧ s.inp.inGuest = true ∧ s.inp.inSvmGuest = true ∧ s.inp.icpt.cr0Write = false
          ∧ (∀ i, i < 64 → i ≠ 1 → i ≠ 3 → s.regs.cr0.getLsbD i = (cr0Value s.cfg.cpuLevel 0x1B#64).getLsbD i)
          ∧ icptCr s .cr0 .write s.regs.cr0 0x1B#64 = .pass ∧ Cr0Accepts s 0x1B#64)
      ∧ (let s := svm { open' with regs := [(.cr .cr0 .write 0x11#64 0x1B#64, .handled 7#64 false)] } prot
        Supervisor s ∧ s.cfg.nested = .svm ∧ s.inp.inGuest = true ∧ s.inp.inSvmGuest = true ∧ s.inp.icpt.cr0Write = false
          ∧ s.inp.icpt.cr0SelWrite = false ∧ icptCr s .cr0 .write s.regs.cr0 0x1B#64 = .handled 7#64 false)
      ∧ (let s := layered .svm { open' with cr0Write := true } prot
        Supervisor s ∧ s.cfg.nested = .svm ∧ s.inp.inGuest = true ∧ s.inp.inSvmGuest = false ∧ Cr0Accepts s 0x11#64) :=
  ⟨⟨⟨rfl, rfl⟩, rfl, rfl, rfl, rfl⟩, ⟨⟨rfl, rfl⟩, rfl, rfl, rfl, rfl, rfl, 16, by decide, by decide, by decide⟩,
    ⟨⟨rfl, rfl⟩, rfl, rfl, rfl, rfl, by decide, by decide, ⟨by decide, by decide, by decide, by decide⟩,
      by unfold LongEntryOk; decide, by unfold LongExitOk; decide, fun h => absurd h (by decide)⟩,
    ⟨⟨rfl, rfl⟩, rfl, rfl, rfl, rfl, rfl, by decide⟩,
    ⟨rfl, rfl⟩, rfl, rfl, rfl, ⟨by decide, by decide, by decide, by decide⟩, by unfold LongEntryOk; decide,
    by unfold LongExitOk; decide, fun h => absurd h (by decide)⟩

/-- Level 3; a layer that exits; a layer that handles; a layer that is off. -/
theorem witness_WrCr2 :
    ring3.ctx.cpl ≠ 0#2
      ∧ (let s := vmx [(.cr .cr2 .write 0#64 5#64, .exit exit7)] [] prot
        Supervisor s ∧ icptCr s .cr2 .write s.regs.cr2 5#64 = .exit exit7)
      ∧ (let s := vmx [(.cr .cr2 .write 0#64 5#64, .handled 0#64 false)] [] prot
        Supervisor s ∧ icptCr s .cr2 .write s.regs.cr2 5#64 = .handled 0#64 false)
      ∧ Supervisor prot ∧ icptCr prot .cr2 .write prot.regs.cr2 5#64 = .pass :=
  ⟨by decide, ⟨⟨rfl, rfl⟩, by decide⟩, ⟨⟨rfl, rfl⟩, by decide⟩, ⟨rfl, rfl⟩, rfl⟩

/-- V2.3 at the largest value outside long mode; V2.5 at the largest in long mode; V1.9's PDPTEs. -/
theorem witness_WrCr3Accepts :
    (Supervisor prot ∧ icptCr prot .cr3 .write prot.regs.cr3 0xFFFFFFFF#64 = .pass ∧ Cr3Accepts prot 0xFFFFFFFF#64)
      ∧ (Supervisor long0 ∧ icptCr long0 .cr3 .write long0.regs.cr3 0xFFFFFFFFFF#64 = .pass
        ∧ Cr3Accepts long0 0xFFFFFFFFFF#64)
      ∧ (let s := { withRegs (fun r => { r with cr0 := 0x80000011#64, cr4 := 0x20#64 }) with
          phys := bytes 0x5000 2 0x6001 ++ bytes 0x5008 2 0x7001 }
        Supervisor s ∧ icptCr s .cr3 .write s.regs.cr3 0x5000#64 = .pass ∧ cr3Walks s = true ∧ Cr3Accepts s 0x5000#64) :=
  ⟨⟨⟨rfl, rfl⟩, rfl, by decide, by decide, fun h => absurd h (by decide)⟩,
    ⟨⟨rfl, rfl⟩, rfl, by decide, by decide, fun h => absurd h (by decide)⟩,
    ⟨rfl, rfl⟩, rfl, by decide, by decide, by decide, fun _ => by unfold PdptesOk pdpteOk; decide +kernel⟩

/-- V3.12, and V3.1 with V1.9's PDPTEs. -/
theorem witness_WrCr4Accepts :
    (Supervisor prot ∧ icptCr prot .cr4 .write prot.regs.cr4 0x40600#64 = .pass ∧ Cr4Legal prot 0x40600#64
        ∧ (cr4Walks prot 0x40600#64 = true → PdptesOk prot prot.regs.cr3))
      ∧ (let s := { withRegs (fun r => { r with cr0 := 0x80000011#64, cr4 := 0x20#64, cr3 := 0x5000#64 }) with
          phys := bytes 0x5000 2 0x6001 ++ bytes 0x5008 2 0x7001 }
        Supervisor s ∧ icptCr s .cr4 .write s.regs.cr4 0xA0#64 = .pass ∧ Cr4Legal s 0xA0#64
          ∧ cr4Walks s 0xA0#64 = true ∧ (cr4Walks s 0xA0#64 = true → PdptesOk s s.regs.cr3)) := by
  refine ⟨⟨⟨rfl, rfl⟩, rfl, ?_, fun h => absurd h (by decide)⟩, ⟨rfl, rfl⟩, rfl, ?_, by decide,
    fun _ => by unfold PdptesOk pdpteOk; decide +kernel⟩ <;> constructor <;> decide

/-- Level 3; the smallest values too large in long mode and outside it; V3.5. -/
theorem witness_WrCr3AndWrCr4Reject :
    ring3.ctx.cpl ≠ 0#2
      ∧ (Supervisor long0 ∧ icptCr long0 .cr3 .write long0.regs.cr3 0x10000000000#64 = .pass
        ∧ long0.regs.efer.getLsbD 10 = true ∧ 2 ^ long0.cfg.phyAddrWidth ≤ (cr3Stored long0 0x10000000000#64).toNat)
      ∧ (Supervisor prot ∧ icptCr prot .cr3 .write prot.regs.cr3 0x100000000#64 = .pass
        ∧ prot.regs.efer.getLsbD 10 = false ∧ 2 ^ 32 ≤ (cr3Stored prot 0x100000000#64).toNat)
      ∧ (Supervisor prot ∧ icptCr prot .cr4 .write prot.regs.cr4 0x800#64 = .pass ∧ ¬Cr4Legal prot 0x800#64) :=
  ⟨by decide, ⟨⟨rfl, rfl⟩, rfl, rfl, by decide⟩, ⟨⟨rfl, rfl⟩, rfl, rfl, by decide⟩, ⟨rfl, rfl⟩, rfl,
    fun h => absurd h.allowed (by decide)⟩

/-- The first entry bad for CR0 and CR3, the last for CR4. -/
theorem witness_BadPdpteRejects :
    (let s := { withRegs (fun r => { r with cr4 := 0x20#64, cr3 := 0x5000#64 }) with phys := bytes 0x5000 2 0x6003 };
      Supervisor s ∧ icptCr s .cr0 .write s.regs.cr0 (cr0Value s.cfg.cpuLevel 0x80000011#64) = .pass
        ∧ Cr0Legal s 0x80000011#64 ∧ LongEntryOk s 0x80000011#64 ∧ LongExitOk s 0x80000011#64
        ∧ cr0Walks s 0x80000011#64 = true ∧ FirstBadPdpte s s.regs.cr3 0)
      ∧ (let s := { withRegs (fun r => { r with cr0 := 0x80000011#64, cr4 := 0x20#64 }) with
          phys := bytes 0x5000 8 0x0000010000006001 }
        Supervisor s ∧ icptCr s .cr3 .write s.regs.cr3 0x5000#64 = .pass ∧ (cr3Stored s 0x5000#64).toNat < 2 ^ 32
          ∧ cr3Walks s = true ∧ FirstBadPdpte s (cr3Stored s 0x5000#64) 0)
      ∧ (let s := { withRegs (fun r => { r with cr0 := 0x80000011#64, cr4 := 0x20#64, cr3 := 0x5000#64 }) with
          phys := bytes 0x5000 2 0x6001 ++ bytes 0x5018 2 0x7007 }
        Supervisor s ∧ icptCr s .cr4 .write s.regs.cr4 0xA0#64 = .pass ∧ Cr4Legal s 0xA0#64 ∧ cr4Walks s 0xA0#64 = true
          ∧ FirstBadPdpte s s.regs.cr3 3) := by
  refine ⟨⟨⟨rfl, rfl⟩, rfl, by constructor <;> decide, by unfold LongEntryOk; decide, by unfold LongExitOk; decide,
    by decide, ?_⟩, ⟨⟨rfl, rfl⟩, rfl, by decide, by decide, ?_⟩, ⟨rfl, rfl⟩, rfl, by constructor <;> decide, by decide, ?_⟩ <;>
    unfold FirstBadPdpte pdpteOk <;> decide +kernel

/-- No x86-64; level 3; the layer's two answers; the values 16 and 15, and 15 under SVM virtual interrupt masking. -/
theorem witness_WrCr8 :
    bare.has .x86_64 = false
      ∧ (ring3.cfg.has .x86_64 = true ∧ ring3.ctx.cpl ≠ 0#2)
      ∧ (let s := vmx [(.cr .cr8 .write 0#64 5#64, .exit exit7)] [] prot
        s.cfg.has .x86_64 = true ∧ Supervisor s
          ∧ icptCr s .cr8 .write ((s.tpr.extractLsb' 4 4).setWidth 64) 5#64 = .exit exit7)
      ∧ (let s := vmx [(.cr .cr8 .write 0#64 5#64, .handled 0#64 true)] [] prot
        s.cfg.has .x86_64 = true ∧ Supervisor s
          ∧ icptCr s .cr8 .write ((s.tpr.extractLsb' 4 4).setWidth 64) 5#64 = .handled 0#64 true)
      ∧ (let s := svm { open' with regs := [(.cr .cr8 .write 0#64 5#64, .handled 0#64 true)] } prot
        icptCr s .cr8 .write ((s.tpr.extractLsb' 4 4).setWidth 64) 5#64 = .handled 0#64 true)
      ∧ (prot.cfg.has .x86_64 = true ∧ Supervisor prot
        ∧ icptCr prot .cr8 .write ((prot.tpr.extractLsb' 4 4).setWidth 64) 16#64 = .pass ∧ 16 ≤ (16#64 : Word).toNat)
      ∧ (let s := (svm open' prot).setInp { (svm open' prot).inp with svmVIntrMasking := true }
        s.cfg.has .x86_64 = true ∧ Supervisor s ∧ icptCr s .cr8 .write ((s.tpr.extractLsb' 4 4).setWidth 64) 15#64 = .pass
          ∧ (15#64 : Word).toNat < 16 ∧ s.inp.inSvmGuest = true ∧ s.inp.svmVIntrMasking = true)
      ∧ (icptCr prot .cr8 .write ((prot.tpr.extractLsb' 4 4).setWidth 64) 15#64 = .pass
        ∧ ¬(prot.inp.inSvmGuest = true ∧ prot.inp.svmVIntrMasking = true)) :=
  ⟨rfl, ⟨rfl, by decide⟩, ⟨rfl, ⟨rfl, rfl⟩, by decide⟩, ⟨rfl, ⟨rfl, rfl⟩, by decide⟩, by decide, ⟨rfl, ⟨rfl, rfl⟩, rfl, by decide⟩,
    ⟨rfl, ⟨rfl, rfl⟩, by decide, by decide, rfl, rfl⟩, rfl, by decide⟩

/-- Level 3; the layer off; the layer's two other answers; no x86-64. -/
theorem witness_RdCr :
    ring3.ctx.cpl ≠ 0#2 ∧ (Supervisor prot ∧ icptCr prot .cr0 .read prot.regs.cr0 0#64 = .pass)
      ∧ (let s := vmx [(.cr .cr0 .read 0x11#64 0#64, .handled 5#64 false)] [] prot
        Supervisor s ∧ icptCr s .cr0 .read s.regs.cr0 0#64 = .handled 5#64 false)
      ∧ (let s := vmx [(.cr .cr4 .read 0#64 0#64, .exit exit7)] [] prot
        Supervisor s ∧ icptCr s .cr4 .read s.regs.cr4 0#64 = .exit exit7)
      ∧ prot.cfg.has .x86_64 = true ∧ bare.has .x86_64 = false :=
  ⟨by decide, ⟨⟨rfl, rfl⟩, rfl⟩, ⟨⟨rfl, rfl⟩, by decide⟩, ⟨⟨rfl, rfl⟩, by decide⟩, rfl, rfl⟩

/-! ### Deliveries and exceptions that complete -/

/-- The conditions of a delivery: those that are evaluated as one. -/
theorem gatePassed_of {s : State} {v : Vector8} {soft : Bool} (port : s.port = [])
    (h : (s.regs.lma = false ∧ s.regs.pe = true ∧ s.cfg.cetSupported = false
        ∧ 8 * v.toNat + 7 ≤ s.ctx.idtr.limit.toNat)
      ∧ (gateOf s v).s = false
      ∧ ((gateOf s v).type = 6#4 ∨ (gateOf s v).type = 7#4 ∨ (gateOf s v).type = 14#4 ∨ (gateOf s v).type = 15#4)
      ∧ (soft = true → s.ctx.cpl ≤ (gateOf s v).dpl) ∧ (gateOf s v).p = true) : GatePassed s v soft :=
  ⟨⟨h.1.1, h.1.2.1, h.1.2.2.1, h.1.2.2.2, noAnswers port⟩, h.2.1, h.2.2.1, h.2.2.2.1, h.2.2.2.2⟩

theorem taskGate_of {s : State} {v : Vector8} {soft : Bool} (port : s.port = [])
    (h : (s.regs.lma = false ∧ s.regs.pe = true ∧ s.cfg.cetSupported = false
        ∧ 8 * v.toNat + 7 ≤ s.ctx.idtr.limit.toNat)
      ∧ ((gateOf s v).s = false ∧ (gateOf s v).type = 5#4)
      ∧ (soft = true → s.ctx.cpl ≤ (gateOf s v).dpl) ∧ (gateOf s v).p = true) : TaskGatePassed s v soft :=
  ⟨⟨h.1.1, h.1.2.1, h.1.2.2.1, h.1.2.2.2, noAnswers port⟩, h.2.1, h.2.2.1, h.2.2.2⟩

theorem codePassed_of {s : State} {v : Vector8} {soft : Bool} (g : GatePassed s v soft)
    (inTable : descInTable s.ctx (gateOf s v).selector)
    (h : selCode (gateOf s v).selector ≠ 0#16 ∧ ((codeOf s v).s = true ∧ (codeOf s v).type.getLsbD 3 = true)
      ∧ (codeOf s v).dpl ≤ s.ctx.cpl ∧ (codeOf s v).p = true) : CodePassed s v soft :=
  ⟨g, h.1, inTable, h.2.1, h.2.2.1, h.2.2.2⟩

theorem longGatePassed_of {s : State} {v : Vector8} {soft : Bool} (port : s.port = [])
    (h : (s.regs.lma = true ∧ s.cfg.cetSupported = false ∧ 16 * v.toNat + 15 ≤ s.ctx.idtr.limit.toNat)
      ∧ (longHigh s v).extractLsb' 40 5 = 0#5 ∧ (longGateOf s v).s = false
      ∧ ((longGateOf s v).type = 14#4 ∨ (longGateOf s v).type = 15#4)
      ∧ (soft = true → s.ctx.cpl ≤ (longGateOf s v).dpl) ∧ (longGateOf s v).p = true) : LongGatePassed s v soft :=
  ⟨⟨h.1.1, h.1.2.1, h.1.2.2, noAnswers port⟩, h.2.1, h.2.2.1, h.2.2.2.1, h.2.2.2.2.1, h.2.2.2.2.2⟩

theorem longCodePassed_of {s : State} {v : Vector8} {soft : Bool} (g : LongGatePassed s v soft)
    (inTable : descInTable s.ctx (longGateOf s v).selector)
    (h : selCode (longGateOf s v).selector ≠ 0#16 ∧ ((longCodeOf s v).s = true ∧ (longCodeOf s v).type.getLsbD 3 = true)
      ∧ (longCodeOf s v).dpl ≤ s.ctx.cpl ∧ ((longCodeOf s v).l = true ∧ (longCodeOf s v).db = false)
      ∧ (longCodeOf s v).p = true) : LongCodePassed s v soft :=
  ⟨g, h.1, inTable, h.2.1, h.2.2.1, h.2.2.2.1, h.2.2.2.2⟩

/-- The stack of level 0 is there to be taken. -/
theorem level0_stack {s : State} {v : Vector8} (i : longTssIndex s v = some 0)
    (h : s.ctx.tr.valid = true ∧ (s.ctx.tr.cache.type = 9#4 ∨ s.ctx.tr.cache.type = 11#4) ∧ 11 ≤ s.ctx.tr.cache.limit.toNat) :
    ∀ k, longTssIndex s v = some k → s.ctx.tr.valid = true ∧ tss32 s ∧ 8 * k + 4 + 7 ≤ s.ctx.tr.cache.limit.toNat := by
  intro k e
  rw [i] at e
  cases e
  exact h

theorem real_ready : RealReady real 0x21#8 := ⟨⟨rfl, rfl, by decide, noAnswers rfl⟩, upTo 3 (by decide), by decide⟩

/-- V10.9. -/
theorem same_ready : SameReady ring0 0x41#8 true false := by
  refine ⟨⟨codePassed_of (gatePassed_of rfl ?_) ?_ ?_, ?_⟩, ?_, ?_, ?_⟩ <;>
    first | decide +kernel | (unfold descInTable; decide +kernel) | (unfold slotsOk; decide +kernel)

/-- V10.3. -/
theorem inner_ready : InnerReady ring3 0x80#8 true false true := by
  refine ⟨⟨⟨⟨codePassed_of (gatePassed_of rfl ?_) ?_ ?_, ?_, ?_⟩, ?_, Or.inr ?_, ?_⟩, ?_, ?_, ?_, ?_, ?_, ?_, ?_⟩, ?_, ?_⟩ <;>
    first | decide +kernel | (unfold descInTable; decide +kernel)

/-- The same from a 16-bit TSS. -/
theorem inner_ready_tss16 : InnerReady ring3Tss16 0x80#8 true false false := by
  refine ⟨⟨⟨⟨codePassed_of (gatePassed_of rfl ?_) ?_ ?_, ?_, ?_⟩, ?_, Or.inr ?_, ?_⟩, ?_, ?_, ?_, ?_, ?_, ?_, ?_⟩, ?_, ?_⟩ <;>
    first | decide +kernel | (unfold descInTable; decide +kernel)

/-- The same from V8086, with its nine entries. -/
theorem inner_ready_v86 : InnerReady virtual86 0x80#8 true false true := by
  refine ⟨⟨⟨⟨codePassed_of (gatePassed_of rfl ?_) ?_ ?_, ?_, ?_⟩, ?_, Or.inr ?_, ?_⟩, ?_, ?_, ?_, ?_, ?_, ?_, ?_⟩, ?_, ?_⟩ <;>
    first | decide +kernel | (unfold descInTable; decide +kernel)

/-- R374. -/
theorem long_ready : LongReady long3 3#8 true false := by
  refine ⟨⟨longCodePassed_of (longGatePassed_of rfl ?_) ?_ ?_, level0_stack ?_ ?_⟩, ?_, ?_⟩ <;>
    first | decide +kernel | (unfold descInTable; decide +kernel)

/-- R304's state, V9.8: a real-mode exception. -/
theorem real_exception : ∃ t, ExceptionTo real 13#8 0x50#16 t :=
  ⟨_, by decide, rfl, by decide, Or.inr (Or.inl rfl), _,
    .real ⟨⟨rfl, rfl, by decide, noAnswers rfl⟩, upTo 3 (by decide +kernel), by decide +kernel⟩, rfl⟩

/-- V9.2, and the two other vectors that the statements below deliver on `ring0`. -/
theorem ring0_exception (v : Vector8) (h : v = 11#8 ∨ v = 14#8 ∨ v = 6#8) (ec : Half) : ∃ t, ExceptionTo ring0 v ec t := by
  rcases h with rfl | rfl | rfl <;>
    refine ⟨_, by decide, rfl, by decide, Or.inr (Or.inl rfl), _, .same ?_, rfl⟩ <;>
    refine ⟨⟨codePassed_of (gatePassed_of rfl ?_) ?_ ?_, ?_⟩, ?_, ?_, ?_⟩ <;>
    first | decide +kernel | (unfold descInTable; decide +kernel) | (unfold slotsOk; decide +kernel)

/-- R346. -/
theorem ring3_exception : ∃ t, ExceptionTo ring3 13#8 0#16 t := by
  refine ⟨_, by decide, rfl, by decide, Or.inr (Or.inl rfl), _, .inner true ?_, rfl⟩
  refine ⟨⟨⟨⟨codePassed_of (gatePassed_of rfl ?_) ?_ ?_, ?_, ?_⟩, ?_, Or.inr ?_, ?_⟩, ?_, ?_, ?_, ?_, ?_, ?_, ?_⟩, ?_, ?_⟩ <;>
    first | decide +kernel | (unfold descInTable; decide +kernel)

/-- A #GP at level 3 in LONG64. -/
theorem long_exception : ∃ t, ExceptionTo long3 13#8 0#16 t := by
  refine ⟨_, by decide, rfl, by decide, Or.inr (Or.inl rfl), _, .long ?_, rfl⟩
  refine ⟨⟨longCodePassed_of (longGatePassed_of rfl ?_) ?_ ?_, level0_stack ?_ ?_⟩, ?_, ?_⟩ <;>
    first | decide +kernel | (unfold descInTable; decide +kernel)

/-- `ring0` with BD recorded, as GD leaves it. -/
def ring0Gd : State := ring0.setRegs { ring0.regs with dr7 := 0x2400#64 }

theorem gd_exception : ∃ t, ExceptionTo
    (ring0Gd.setSched { ring0Gd.sched with debugTrap := ring0Gd.sched.debugTrap ||| 0x2000#16 }) 1#8 0#16 t := by
  refine ⟨_, by decide, rfl, by decide, Or.inr (Or.inl rfl), _, .same ?_, rfl⟩
  refine ⟨⟨codePassed_of (gatePassed_of rfl ?_) ?_ ?_, ?_⟩, ?_, ?_, ?_⟩ <;>
    first | decide +kernel | (unfold descInTable; decide +kernel) | (unfold slotsOk; decide +kernel)

/-! ### Register rows, properties, the layer -/

theorem witness_UndefinedRegisterRows :
    undefinedRow .wrcr1Ud = true ∧ undefinedRow (.rddr8_15Ud 7#3) = true ∧ ring0.aborted = false
      ∧ ∃ t, ExceptionTo ring0 6#8 0#16 t := ⟨rfl, rfl, rfl, ring0_exception _ (by decide) _⟩

theorem witness_CrProperties :
    (prot.aborted = false ∧ icptCr prot .cr0 .write prot.regs.cr0 (cr0Value prot.cfg.cpuLevel 0x11#64) = .pass
        ∧ cr0Value prot.cfg.cpuLevel 0x11#64 = prot.regs.cr0
        ∧ ∃ t, exec (.wrcr0 0x11#64) prot = .next t ∧ (t.kind == 0#4) = true)
      ∧ (let s := withRegs fun r => { r with cr4 := 0x10#64 }
        icptCr s .cr4 .write s.regs.cr4 0x90#64 = .pass ∧ (0x90#64 : Word).getLsbD 7 ≠ s.regs.cr4.getLsbD 7
          ∧ ∃ t, exec (.wrcr4 0x90#64) s = .next t ∧ (t.kind == 0#4) = true)
      ∧ (Supervisor prot ∧ icptCr prot .cr0 .write prot.regs.cr0 (cr0Value prot.cfg.cpuLevel 0x80000010#64) = .pass
        ∧ prot.inp.inSvmGuest = false ∧ (0x80000010#64 : Word).getLsbD 31 = true
        ∧ (0x80000010#64 : Word).getLsbD 0 = false) :=
  ⟨⟨rfl, rfl, by decide, next_of_ends (by decide +kernel)⟩, ⟨rfl, by decide, next_of_ends (by decide +kernel)⟩, ⟨rfl, rfl⟩,
    rfl, rfl, by decide, by decide⟩

/-- A layer that exits on the write of each register, or handles it, to a value that the validator would reject; a layer
that exits on the write of DR6, under its alias, and on the read of DR7. -/
theorem witness_LayerDecidesBeforeTheValue :
    (let s := vmx [(.cr .cr0 .write 0x11#64 0#64, .exit exit7), (.cr .cr3 .write 0#64 0x100000000#64, .exit exit7),
          (.cr .cr4 .write 0x40000#64 0x800#64, .exit exit7), (.msr .efer .write 0#64 2#64, .exit exit7),
          (.msr .xss .write 0#64 1#64, .exit exit7), (.msr .xcr0 .write 1#64 0#64, .exit exit7)] []
        (withRegs fun r => { r with cr4 := 0x40000#64 });
      Supervisor s ∧ icptCr s .cr0 .write s.regs.cr0 0#64 = .exit exit7
        ∧ icptCr s .cr3 .write s.regs.cr3 0x100000000#64 = .exit exit7
        ∧ icptCr s .cr4 .write s.regs.cr4 0x800#64 = .exit exit7 ∧ icptReg s .efer .write s.regs.efer 2#64 = .exit exit7
        ∧ icptReg s .xss .write s.regs.xss 1#64 = .exit exit7 ∧ s.regs.cr4.getLsbD 18 = true
        ∧ icptReg s .xcr0 .write s.regs.xcr0 0#64 = .exit exit7)
      ∧ (let s := vmx [(.cr .cr0 .write 0x11#64 0#64, .handled 0#64 false)] [] prot
        Supervisor s ∧ icptCr s .cr0 .write s.regs.cr0 0#64 = .handled 0#64 false)
      ∧ (let s := vmx [] [(.dr .dr6 .write, exit7), (.dr .dr7 .read, exit7)] prot
        Supervisor s ∧ s.regs.dr7.getLsbD 13 = false
          ∧ drQuery (s.regs.cr4.getLsbD 3) (.wrdr4 0x100000000#64) = some (.dr6, .write)
          ∧ plainAnswer s (.dr .dr6 .write) = some exit7 ∧ drQuery (s.regs.cr4.getLsbD 3) .rddr7 = some (.dr7, .read)
          ∧ plainAnswer s (.dr .dr7 .read) = some exit7) :=
  ⟨⟨⟨rfl, rfl⟩, by decide, by decide, by decide, by decide, by decide, by decide, by decide⟩, ⟨⟨rfl, rfl⟩, by decide⟩,
    ⟨rfl, rfl⟩, by decide, by decide, by decide, by decide, by decide⟩

/-! ### Debug registers -/

theorem prot_drPasses (n : DrNum) (d : Dir) : DrPasses prot n d := ⟨⟨rfl, rfl⟩, by decide, rfl⟩

/-- The smallest address that is canonical only by its sign, in LONG64; the largest DR6 and DR7 value; CR4.DE clear. -/
theorem witness_WrDr :
    (0xFFFF800000000000#64 = ((0xFFFF800000000000#64 : Word).setWidth 48).signExtend 64
        ∧ DrPasses long0 .dr0 .write ∧ DrPasses long0 .dr1 .write ∧ DrPasses long0 .dr2 .write
        ∧ DrPasses long0 .dr3 .write)
      ∧ (0xFFFFFFFF#64 : Word).toNat < 2 ^ 32 ∧ DrPasses prot .dr6 .write ∧ DrPasses prot .dr7 .write
      ∧ prot.regs.cr4.getLsbD 3 = false :=
  ⟨⟨by decide, ⟨⟨rfl, rfl⟩, by decide, rfl⟩, ⟨⟨rfl, rfl⟩, by decide, rfl⟩, ⟨⟨rfl, rfl⟩, by decide, rfl⟩,
    ⟨⟨rfl, rfl⟩, by decide, rfl⟩⟩, by decide, prot_drPasses _ _, prot_drPasses _ _, by decide⟩

theorem witness_RdDr :
    (∀ n : DrNum, DrPasses prot n .read) ∧ prot.regs.cr4.getLsbD 3 = false := ⟨fun n => prot_drPasses n _, by decide⟩

theorem witness_GeneralDetect :
    ring0Gd.aborted = false ∧ drAccessRow (ring0Gd.regs.cr4.getLsbD 3) .rddr7 = true
      ∧ drAccessRow (ring0Gd.regs.cr4.getLsbD 3) (.wrdr4 0#64) = true ∧ ring0Gd.regs.dr7.getLsbD 13 = true
      ∧ ∃ t, ExceptionTo
        (ring0Gd.setSched { ring0Gd.sched with debugTrap := ring0Gd.sched.debugTrap ||| 0x2000#16 }) 1#8 0#16 t :=
  ⟨rfl, by decide, by decide, by decide, gd_exception⟩

/-- An alias under CR4.DE; level 3; the smallest address that is not canonical; the smallest value too large, with
CR4.DE clear. -/
theorem witness_DrRejects :
    (let s := withRegs fun r => { r with cr4 := 8#64 };
      drAccessRow (s.regs.cr4.getLsbD 3) .rddr4 = false ∧ drAccessRow false .rddr4 = true)
      ∧ (drAccessRow (ring3.regs.cr4.getLsbD 3) .rddr0 = true ∧ ring3.regs.dr7.getLsbD 13 = false ∧ ring3.ctx.cpl ≠ 0#2)
      ∧ (long0.mode = .long64 ∧ 0x800000000000#64 ≠ ((0x800000000000#64 : Word).setWidth 48).signExtend 64
        ∧ DrPasses long0 .dr0 .write ∧ DrPasses long0 .dr1 .write ∧ DrPasses long0 .dr2 .write
        ∧ DrPasses long0 .dr3 .write)
      ∧ 2 ^ 32 ≤ (0x100000000#64 : Word).toNat ∧ DrPasses prot .dr6 .write ∧ DrPasses prot .dr7 .write
      ∧ prot.regs.cr4.getLsbD 3 = false :=
  ⟨⟨by decide, rfl⟩, ⟨by decide, by decide, by decide⟩,
    ⟨by decide, by decide, ⟨⟨rfl, rfl⟩, by decide, rfl⟩, ⟨⟨rfl, rfl⟩, by decide, rfl⟩, ⟨⟨rfl, rfl⟩, by decide, rfl⟩,
      ⟨⟨rfl, rfl⟩, by decide, rfl⟩⟩, by decide, prot_drPasses _ _, prot_drPasses _ _, by decide⟩

/-! ### EFER, XCR0, IA32_XSS -/

/-- V4.1, V4.2, and level 3. -/
theorem witness_WrEfer :
    ring3.ctx.cpl ≠ 0#2 ∧ (Supervisor prot ∧ icptReg prot .efer .write prot.regs.efer 0x100#64 = .pass
        ∧ EferAccepts prot 0x100#64)
      ∧ Supervisor long0 ∧ icptReg long0 .efer .write long0.regs.efer 0#64 = .pass ∧ ¬EferAccepts long0 0#64 :=
  ⟨by decide, ⟨⟨rfl, rfl⟩, rfl, by decide, by decide⟩, ⟨rfl, rfl⟩, rfl, fun h => absurd (h.lme (by decide)) (by decide)⟩

/-- OSXSAVE, and a part with XSAVES and PT. -/
def xsaves : State :=
  { prot with
    cfg := { Config.p0 with features := [.xsaves, .pt, .sse, .avx] }
    regs := { prot.regs with cr4 := 0x40000#64 } }

theorem witness_WrXcrAndXss :
    prot.regs.cr4.getLsbD 18 = false ∧ (xsaves.regs.cr4.getLsbD 18 = true ∧ (atCpl 3#2 xsaves).ctx.cpl ≠ 0#2)
      ∧ (Supervisor xsaves ∧ icptReg xsaves .xcr0 .write xsaves.regs.xcr0 7#64 = .pass ∧ Xcr0Legal xsaves.cfg 7#64
        ∧ ¬Xcr0Legal xsaves.cfg 5#64)
      ∧ (icptReg xsaves .xss .write xsaves.regs.xss 0x100#64 = .pass ∧ xsaves.cfg.has .xsaves = true
        ∧ (0x100#64 : Word) &&& ~~~(xssAllow xsaves.cfg) = 0#64 ∧ (0x200#64 : Word) &&& ~~~(xssAllow xsaves.cfg) ≠ 0#64)
      ∧ prot.cfg.has .xsaves = false :=
  ⟨by decide, ⟨by decide, by decide⟩,
    ⟨⟨rfl, rfl⟩, rfl, ⟨by decide, by decide, by decide, by decide, by decide, by decide⟩,
      fun h => absurd (h.avx (by decide)) (by decide)⟩, ⟨rfl, rfl, by decide, by decide⟩, rfl⟩

theorem witness_MsrReads :
    ring3.ctx.cpl ≠ 0#2 ∧ (Supervisor xsaves ∧ xsaves.cfg.has .xsaves = true ∧ xsaves.regs.cr4.getLsbD 18 = true)
      ∧ icptReg xsaves .efer .read xsaves.regs.efer 0#64 = .pass ∧ icptReg xsaves .xss .read xsaves.regs.xss 0#64 = .pass
      ∧ (let s := vmx [(.msr .efer .read 0#64 0#64, .exit exit7), (.msr .xss .read 0#64 0#64, .handled 5#64 false)] [] xsaves
        Supervisor s ∧ icptReg s .efer .read s.regs.efer 0#64 = .exit exit7
          ∧ icptReg s .xss .read s.regs.xss 0#64 = .handled 5#64 false)
      ∧ (let s := vmx [(.msr .xss .read 0#64 0#64, .exit exit7), (.msr .efer .read 0#64 0#64, .handled 5#64 false)] [] xsaves
        icptReg s .xss .read s.regs.xss 0#64 = .exit exit7
          ∧ icptReg s .efer .read s.regs.efer 0#64 = .handled 5#64 false)
      ∧ prot.cfg.has .xsaves = false ∧ prot.regs.cr4.getLsbD 18 = false ∧ xsaves.aborted = false :=
  ⟨by decide, ⟨⟨rfl, rfl⟩, rfl, by decide⟩, rfl, rfl, ⟨⟨rfl, rfl⟩, by decide, by decide⟩, ⟨by decide, by decide⟩, rfl,
    by decide, rfl⟩

/-! ### I/O permission -/

/-- Level 0; V7.1; V7.8, four ports over the byte boundary; a layer that exits. -/
theorem witness_ChkioGrants :
    (ring0.aborted = false ∧ IoGranted ring0 1#8 0x3F8#16 [] ∧ plainAnswer ring0 (.io 0x3F8#16 1#8 true false) = none)
      ∧ IoGranted (ioState 0) 1#8 0x3F8#16 (ioReads (ioState 0) 0x3F8#16)
      ∧ IoGranted (ioState 0x800) 4#8 0x3FF#16 (ioReads (ioState 0x800) 0x3FF#16)
      ∧ (let s := vmx [] [(.io 0x3F8#16 1#8 true false, exit7)] ring0
        s.aborted = false ∧ IoGranted s 1#8 0x3F8#16 [] ∧ plainAnswer s (.io 0x3F8#16 1#8 true false) = some exit7) := by
  refine ⟨⟨rfl, .unchecked (by unfold ioChecked; decide), rfl⟩, .bitmap ?_ ?_ ?_ ?_ (noAnswers rfl),
    .bitmap ?_ ?_ ?_ ?_ (noAnswers rfl), rfl, .unchecked (by unfold ioChecked; decide), by decide⟩ <;>
    first | (unfold ioChecked; decide +kernel) | (unfold ioTss; decide +kernel) | decide +kernel

/-- The widths 0 and 3; V7.9, V7.10, V7.2; a page fault on the first read, and on the second. -/
theorem witness_ChkioDenies :
    (prot.aborted = false ∧ (0#8 : BitVec 8) ≠ 1#8 ∧ (3#8 : BitVec 8) ≠ 1#8 ∧ (3#8 : BitVec 8) ≠ 2#8 ∧ (3#8 : BitVec 8) ≠ 4#8)
      ∧ (let s := { ioState 0 with ctx := { ring3.ctx with tr := tssReg 0x3000#64 0x66#32 } };
      s.aborted = false ∧ ioChecked s ∧ ¬ioTss s)
      ∧ (let s := { ioState 0 with ctx := { ring3.ctx with tr := tssReg 0x3000#64 0xE7#32 } }
        ioChecked s ∧ ioTss s ∧ s.portOk ∧ s.ctx.tr.cache.limit.toNat ≤ ioOff s 0x3F8#16)
      ∧ (ioChecked (ioState 1) ∧ ioTss (ioState 1) ∧ (ioState 1).portOk
        ∧ ioOff (ioState 1) 0x3F8#16 < (ioState 1).ctx.tr.cache.limit.toNat
        ∧ ∃ j, j < (1#8 : BitVec 8).toNat ∧ ioBit (ioState 1) 0x3F8#16 j = true)
      ∧ (let s := (ioState 0).setPort [some 4#16]
        ioChecked s ∧ ioTss s ∧ s.port = some 4#16 :: [])
      ∧ (let s := (ioState 0).setPort [none, some 4#16]
        ioChecked s ∧ ioTss s ∧ s.port = none :: some 4#16 :: [] ∧ ioOff s 0x3F8#16 < s.ctx.tr.cache.limit.toNat) := by
  refine ⟨by decide, ⟨rfl, ?_, ?_⟩, ⟨?_, ?_, noAnswers rfl, ?_⟩, ⟨?_, ?_, noAnswers rfl, ?_, 0, by decide, ?_⟩,
    ⟨?_, ?_, rfl⟩, ?_, ?_, rfl, ?_⟩ <;>
    first | (unfold ioChecked; decide +kernel) | (unfold ioTss; decide +kernel) | decide +kernel

/-! ### The feeders -/

theorem witness_SignalAndMask : prot.aborted = false ∧ (0#4 : BitVec 4) ≠ 3#4 ∧ (15#4 : BitVec 4) ≠ 3#4 := by decide

theorem witness_InhibitTrapActivity :
    prot.aborted = false ∧ 0xE00F#16 &&& 0x1FF0#16 = 0#16 ∧ 0x10#16 &&& 0x1FF0#16 ≠ 0#16 := by decide

theorem witness_SnapshotCommands : prot.aborted = false := rfl

/-! ### The per-boundary pass -/

theorem ring0_step6Open (p : BitVec 16) (h : p &&& 0x7016#16 = 0#16) : Step6Open (pendingIn p 0#16 ring0) :=
  step6Open_of rfl rfl rfl h (show Nested.none ≠ .svm by decide)

/-- A layer that exits on this event. -/
def exitsOn (q : PlainQuery) (p : BitVec 16) : State := vmx [] [(q, exit7)] (pendingIn p 0#16 ring0)

/-- A VMX host that exits on its last APIC trap, outside a guest. -/
def apicExits : State :=
  { pendingIn 0x4000#16 0#16 ring0 with
    cfg := { Config.p0 with nested := .vmx }
    inp := { ring0.inp with apicTraps := [(14, exit7)] } }

/-- SVM with GIF 0. -/
def gif0 (p : BitVec 16) : State :=
  { pendingIn p 0#16 ring0 with cfg := { Config.p0 with nested := .svm }, inp := { ring0.inp with gif := false } }

theorem gif0_off (p : BitVec 16) : ¬gifIs1 (gif0 p) := by
  rintro (h | h)
  · exact h rfl
  · exact Bool.false_ne_true h

/-- No event; an inhibited pass with the NMI and a debug trap waiting; GIF 0 with the NMI waiting. -/
theorem witness_QuietPass :
    (let s := withFlags 0x302#64 ring0;
      PastStep4 s ∧ s.sched.debugTrap = 0#16 ∧ Step6Silent s)
      ∧ (let s := ring0.setSched { Sched.reset with pending := 1#16, inhibit := 3#2, debugTrap := 0x4000#16 }
        PastStep4 s ∧ s.sched.inhibit.getLsbD 1 = true ∧ Step6Silent s)
      ∧ (PastStep4 (gif0 1#16) ∧ (gif0 1#16).sched.debugTrap = 0#16 ∧ Step6Silent (gif0 1#16)) :=
  ⟨⟨(atStep6_of (p := 0#16) rfl rfl rfl rfl).toPastStep4, rfl,
      Or.inr (Or.inr ⟨not_evOn rfl, not_evOn rfl, not_evOn rfl, not_evOn rfl,
        fun _ => ⟨not_evOn rfl, not_evOn rfl, not_evOn rfl, not_evOn rfl, not_evOn rfl⟩⟩)⟩,
    ⟨⟨⟨⟨rfl, rfl, rfl⟩, by decide, not_evOn rfl, not_evOn rfl, not_evOn rfl⟩, fun h => absurd h (not_evOn rfl),
      fun h => absurd h (not_evOn rfl), not_evOn rfl⟩, by decide, Or.inl (by decide)⟩,
    (atStep6_of (p := 1#16) rfl rfl rfl rfl).toPastStep4, rfl, Or.inr (Or.inl (gif0_off _))⟩

/-- V8.10, V8.12, V8.13. -/
theorem witness_KillAndHalt :
    (let s := ring0.setInp { ring0.inp with killRequest := true };
      s.aborted = false ∧ s.inp.killRequest = true)
      ∧ (let s := withFlags 2#64 (ring0.setSched { Sched.reset with activity := .hlt, pending := 0x400#16 })
        s.aborted = false ∧ s.inp.killRequest = false ∧ s.sched.activity ≠ .active ∧ ¬Wakes s)
      ∧ (let s := withFlags 2#64 (ring0.setSched { Sched.reset with activity := .mwaitIf, pending := 0x400#16 })
        s.inp.killRequest = false ∧ s.sched.activity ≠ .active ∧ Wakes s) := by
  refine ⟨⟨rfl, rfl⟩, ⟨rfl, rfl, by decide, ?_⟩, rfl, by decide, ?_⟩ <;> unfold Wakes evOn ifIs1 <;> decide

/-- V8.18; the first and the last APIC trap, passed without a VMX host, and exiting outside a guest; V8.17. -/
theorem witness_BoundaryTraps :
    (let s := ring0.setSched { Sched.reset with debugTrap := 0x8000#16, inhibit := 3#2 };
      PastStep1 s ∧ s.sched.debugTrap.getLsbD 15 = true)
      ∧ (let s := pendingIn 0x7000#16 0#16 ring0
        PastStep1 s ∧ s.sched.debugTrap.getLsbD 15 = false ∧ evOn s 12 ∧ apicTrapAnswer s 12 = none)
      ∧ (let s := apicExits
        PastStep1 s ∧ s.sched.debugTrap.getLsbD 15 = false ∧ evOn s 14 ∧ (∀ d, 12 ≤ d → d < 14 → ¬evOn s d)
          ∧ s.inp.inGuest = false ∧ apicTrapAnswer s 14 = some exit7)
      ∧ (let s := ring0.setSched { Sched.reset with debugTrap := 0x4000#16 }
        PastStep4 s ∧ s.sched.inhibit.getLsbD 1 = false ∧ s.sched.debugTrap ≠ 0#16) :=
  ⟨⟨⟨rfl, rfl, rfl⟩, by decide⟩, ⟨⟨rfl, rfl, rfl⟩, by decide, evOn_of rfl, rfl⟩,
    ⟨⟨rfl, rfl, rfl⟩, by decide, evOn_of rfl, by unfold evOn; decide, rfl, by decide⟩,
    ⟨⟨⟨rfl, rfl, rfl⟩, by decide, not_evOn rfl, not_evOn rfl, not_evOn rfl⟩, fun h => absurd h (not_evOn rfl),
      fun h => absurd h (not_evOn rfl), not_evOn rfl⟩, by decide, by decide⟩

/-- SMI and INIT, passed and intercepted; MTF with SMI and INIT held back by GIF 0. -/
theorem witness_BoundaryStepFour :
    (let s := pendingIn 2#16 0#16 ring0;
      PastStep3 s ∧ evOn s 1 ∧ gifIs1 s ∧ plainAnswer s (.event .smi) = none)
      ∧ (let s := exitsOn (.event .smi) 2#16
        PastStep3 s ∧ evOn s 1 ∧ gifIs1 s ∧ plainAnswer s (.event .smi) = some exit7)
      ∧ (let s := pendingIn 4#16 0#16 ring0
        PastStep3 s ∧ ¬evOn s 1 ∧ evOn s 2 ∧ gifIs1 s ∧ plainAnswer s (.event .init) = none)
      ∧ (let s := exitsOn (.event .init) 4#16
        PastStep3 s ∧ ¬evOn s 1 ∧ evOn s 2 ∧ gifIs1 s ∧ plainAnswer s (.event .init) = some exit7)
      ∧ (PastStep3 (gif0 0x16#16) ∧ ¬gifIs1 (gif0 0x16#16) ∧ evOn (gif0 0x16#16) 1 ∧ evOn (gif0 0x16#16) 2
        ∧ evOn (gif0 0x16#16) 4) :=
  ⟨⟨⟨⟨rfl, rfl, rfl⟩, by decide, not_evOn rfl, not_evOn rfl, not_evOn rfl⟩, evOn_of rfl, Or.inl (by decide), rfl⟩,
    ⟨⟨⟨rfl, rfl, rfl⟩, by decide, not_evOn rfl, not_evOn rfl, not_evOn rfl⟩, evOn_of rfl, Or.inl (by decide), by decide⟩,
    ⟨⟨⟨rfl, rfl, rfl⟩, by decide, not_evOn rfl, not_evOn rfl, not_evOn rfl⟩, not_evOn rfl, evOn_of rfl, Or.inl (by decide),
      rfl⟩,
    ⟨⟨⟨rfl, rfl, rfl⟩, by decide, not_evOn rfl, not_evOn rfl, not_evOn rfl⟩, not_evOn rfl, evOn_of rfl, Or.inl (by decide),
      by decide⟩,
    ⟨⟨rfl, rfl, rfl⟩, by decide, not_evOn rfl, not_evOn rfl, not_evOn rfl⟩, gif0_off _, evOn_of rfl, evOn_of rfl,
    evOn_of rfl⟩

theorem witness_BoundaryWindowExits :
    (Step6Open (pendingIn 0xA1#16 0#16 ring0) ∧ evOn (pendingIn 0xA1#16 0#16 ring0) 5)
      ∧ (Step6Open (pendingIn 0x81#16 0#16 ring0) ∧ ¬evOn (pendingIn 0x81#16 0#16 ring0) 5
        ∧ evOn (pendingIn 0x81#16 0#16 ring0) 7)
      ∧ (Step6Open (pendingIn 0x440#16 0#16 ring0) ∧ ¬evOn (pendingIn 0x440#16 0#16 ring0) 5
        ∧ ¬evOn (pendingIn 0x440#16 0#16 ring0) 7 ∧ ¬evOn (pendingIn 0x440#16 0#16 ring0) 0
        ∧ ifIs1 (pendingIn 0x440#16 0#16 ring0) ∧ evOn (pendingIn 0x440#16 0#16 ring0) 6) :=
  ⟨⟨ring0_step6Open _ rfl, evOn_of rfl⟩, ⟨ring0_step6Open _ rfl, not_evOn rfl, evOn_of rfl⟩,
    ring0_step6Open _ rfl, not_evOn rfl, not_evOn rfl, not_evOn rfl, by unfold ifIs1; decide, evOn_of rfl⟩

/-- A debug trap that the pass loses leaves step 6 open (R237): the first and the last event of step 6. -/
theorem witness_Step6Open_inhibited :
    let s := ring0.setSched { Sched.reset with pending := 0x8020#16, debugTrap := 0x4000#16, inhibit := 2#2 }
    Step6Open s ∧ s.sched.debugTrap ≠ 0#16 ∧ evOn s 5 ∧ evOn s 15 :=
  ⟨step6Open_of (p := 0x8020#16) (d := 0x4000#16) (i := 2#2) rfl rfl rfl rfl (by decide), by decide, evOn_of rfl,
    evOn_of rfl⟩

/-- P3 line 6, and an intercepted NMI. -/
theorem witness_BoundaryNmi :
    (let s := pendingIn 0x401#16 0#16 ring0;
      Step6Open s ∧ ¬evOn s 5 ∧ ¬evOn s 7 ∧ evOn s 0 ∧ plainAnswer s (.event .nmi) = none
        ∧ ∃ t, DeliversTo (nmiTaken (trapLost s)) 2#8 2#3 false 0#16 t)
      ∧ (let s := exitsOn (.event .nmi) 1#16
        Step6Open s ∧ ¬evOn s 5 ∧ ¬evOn s 7 ∧ evOn s 0 ∧ plainAnswer s (.event .nmi) = some exit7) := by
  refine ⟨⟨ring0_step6Open _ rfl, not_evOn rfl, not_evOn rfl, evOn_of rfl, rfl, _, .same ?_⟩,
    step6Open_of (p := 1#16) rfl rfl rfl rfl (by decide), not_evOn rfl, not_evOn rfl, evOn_of rfl, by decide⟩
  refine ⟨⟨codePassed_of (gatePassed_of rfl ?_) ?_ ?_, ?_⟩, ?_, ?_, ?_⟩ <;>
    first | decide +kernel | (unfold descInTable; decide +kernel) | (unfold slotsOk; decide +kernel)

/-- `ring0` with vector 0x30 at every controller. -/
def vectors (s : State) : State :=
  s.setInp { s.inp with lapicVector := 0x30#8, picVector := 0x30#8, vapicVector := 0x30#8, svmVector := 0x30#8 }

theorem vectors_turn (p : BitVec 16) (h : p &&& 0x70F7#16 = 0#16) : MaskableTurn (vectors (pendingIn p 0#16 ring0)) := by
  have off : ∀ e, (0x70F7#16).getLsbD e = true → ¬evOn (vectors (pendingIn p 0#16 ring0)) e := fun e he => by
    rintro ⟨hp, -⟩
    have hb := congrArg (fun b => b.getLsbD e) h
    have hp' : p.getLsbD e = true := hp
    simp [hp', he] at hb
  have h' : p &&& 0x7016#16 = 0#16 := by
    have e : p &&& 0x7016#16 = (p &&& 0x70F7#16) &&& 0x7016#16 := by rw [BitVec.and_assoc]; rfl
    rw [e, h]
    rfl
  exact ⟨step6Open_of rfl rfl rfl h' (show Nested.none ≠ .svm by decide), off 5 rfl, off 7 rfl, off 0 rfl, fun _ => off 6 rfl⟩

/-- The virtual interrupt before the two others; the LAPIC before the PIC, passed and intercepted; P3 line 9. -/
theorem witness_BoundaryMaskable :
    (let s := vectors (pendingIn 0xE00#16 0#16 ring0);
      MaskableTurn s ∧ ifIs1 s ∧ evOn s 9 ∧ ∃ t, DeliversTo (interruptTaken (trapLost s) 9 []) 0x30#8 0#3 false 0#16 t)
      ∧ (let s := vectors (pendingIn 0xC00#16 0#16 ring0)
        MaskableTurn s ∧ ifIs1 s ∧ ¬evOn s 9 ∧ evOn s 11 ∧ plainAnswer s (.event (.intr 0x30#8)) = none
          ∧ ∃ t, DeliversTo (interruptTaken (trapLost s) 11 [.intAck 0x30#8]) 0x30#8 0#3 false 0#16 t)
      ∧ (let s := vectors (pendingIn 0x400#16 0#16 ring0)
        MaskableTurn s ∧ ifIs1 s ∧ ¬evOn s 9 ∧ ¬evOn s 11 ∧ evOn s 10 ∧ plainAnswer s (.event (.intr 0x30#8)) = none
          ∧ ∃ t, DeliversTo (interruptTaken (trapLost s) 10 [.intAck 0x30#8]) 0x30#8 0#3 false 0#16 t)
      ∧ plainAnswer (vectors (exitsOn (.event (.intr 0x30#8)) 0xC00#16)) (.event (.intr 0x30#8)) = some exit7 := by
  refine ⟨⟨vectors_turn _ rfl, by unfold ifIs1; decide, evOn_of rfl, _, .same ?_⟩,
    ⟨vectors_turn _ rfl, by unfold ifIs1; decide, not_evOn rfl, evOn_of rfl, rfl, _, .same ?_⟩,
    ⟨vectors_turn _ rfl, by unfold ifIs1; decide, not_evOn rfl, not_evOn rfl, evOn_of rfl, rfl, _, .same ?_⟩,
    by decide⟩ <;>
    refine ⟨⟨codePassed_of (gatePassed_of rfl ?_) ?_ ?_, ?_⟩, ?_, ?_, ?_⟩ <;>
    first | decide +kernel | (unfold descInTable; decide +kernel) | (unfold slotsOk; decide +kernel)

/-- The SVM virtual interrupt, and V8.22. -/
theorem witness_BoundarySvmAndDma :
    (let s := vectors (pendingIn 0x100#16 0#16 ring0);
      MaskableTurn s ∧ ifIs1 s ∧ ¬evOn s 9 ∧ ¬evOn s 10 ∧ ¬evOn s 11 ∧ evOn s 8
        ∧ plainAnswer s (.event .vintr) = none
        ∧ ∃ t, DeliversTo ((clearedEvent (trapLost s) 8).logged [.virtIntAck 0x30#8]) 0x30#8 0#3 false 0#16 t)
      ∧ plainAnswer (vectors (exitsOn (.event .vintr) 0x100#16)) (.event .vintr) = some exit7
      ∧ (let s := vectors (pendingIn 0x8000#16 0#16 ring0)
        MaskableTurn s ∧ (¬evOn s 8 ∧ ¬evOn s 9 ∧ ¬evOn s 10 ∧ ¬evOn s 11) ∧ evOn s 15) := by
  refine ⟨⟨vectors_turn _ rfl, by unfold ifIs1; decide, not_evOn rfl, not_evOn rfl, not_evOn rfl, evOn_of rfl, rfl, _,
    .same ?_⟩, by decide, vectors_turn _ rfl, ⟨not_evOn rfl, not_evOn rfl, not_evOn rfl, not_evOn rfl⟩, evOn_of rfl⟩
  refine ⟨⟨codePassed_of (gatePassed_of rfl ?_) ?_ ?_, ?_⟩, ?_, ?_, ?_⟩ <;>
    first | decide +kernel | (unfold descInTable; decide +kernel) | (unfold slotsOk; decide +kernel)

theorem witness_PassSetsNoEvent :
    ∃ t, exec .boundary (pendingIn 0x401#16 0#16 ring0) = .next t ∧ (t.sched.pending == 0x400#16) = true :=
  next_of_ends (by decide +kernel)

/-! ### Exceptions and deliveries -/

theorem witness_RaiseDelivers :
    (real.aborted = false ∧ ∃ t, ExceptionTo (raiseEntry real 13#8 0#64) 13#8 0x50#16 t)
      ∧ (ring0.aborted = false ∧ ∃ t, ExceptionTo (raiseEntry ring0 11#8 0#64) 11#8 0x18#16 t)
      ∧ (ring3.aborted = false ∧ ∃ t, ExceptionTo (raiseEntry ring3 13#8 0#64) 13#8 0#16 t)
      ∧ (long3.aborted = false ∧ ∃ t, ExceptionTo (raiseEntry long3 13#8 0#64) 13#8 0#16 t) :=
  ⟨⟨rfl, real_exception⟩, ⟨rfl, ring0_exception _ (by decide) _⟩, ⟨rfl, ring3_exception⟩, rfl, long_exception⟩

/-- An exception that the layer intercepts, in a nested delivery with EXT set. -/
def interceptedGp : State :=
  (vmx [] [(.exc 13#8 0x51#16 true 3#3 true true, exit7), (.exc 1#8 0#16 false 5#3 true true, exit7)] ring0).setExc
    { ring0.exc with extBit := true, inEvent := true }

theorem witness_RaiseAndIntEnds :
    (ring0.aborted = false ∧ ∃ t, exec (.raise 13#8 0#16 0#64) ring0 = .next t ∧ (t.kind == 2#4) = true)
      ∧ 32#8 ≤ (32#8 : Vector8)
      ∧ (interceptedGp.aborted = false
        ∧ plainAnswer interceptedGp
          (.exc 13#8 (fixedCode 13#8 0x50#16 interceptedGp.exc.extBit) (pushesCode 13#8) 3#3 interceptedGp.exc.extBit
            interceptedGp.exc.inEvent) = some exit7)
      ∧ ((1#3 : BitVec 3) = 1#3 ∨ (1#3 : BitVec 3) = 7#3)
      ∧ plainAnswer interceptedGp (.exc 1#8 0#16 false 5#3 interceptedGp.exc.extBit interceptedGp.exc.inEvent) = some exit7 :=
  ⟨⟨rfl, next_of_ends (by decide +kernel)⟩, by decide, ⟨rfl, by decide⟩, by decide, by decide⟩

/-- A #GP in a #GP, and a #PF in a #PF. -/
theorem witness_IncompatiblePairIsDoubleFault :
    (let s := ring0.setExc { ring0.exc with lastType := .contributory };
      s.aborted = false ∧ 13#8 < 32#8 ∧ s.exc.lastType ≠ .doubleFault ∧ ¬compatiblePair s.exc.lastType 13#8
        ∧ ∃ t, exec (.raise 13#8 0#16 0#64) s = .next t ∧ (t.kind == 2#4) = true)
      ∧ (let s := ring0.setExc { ring0.exc with lastType := .pageFault }
        ¬compatiblePair s.exc.lastType 14#8
          ∧ ∃ t, exec (.raise 14#8 0#16 0x5000#64) s = .next t ∧ (t.kind == 2#4) = true) :=
  ⟨⟨rfl, by decide, by decide, by unfold compatiblePair; decide, next_of_ends (by decide +kernel)⟩,
    by unfold compatiblePair; decide, next_of_ends (by decide +kernel)⟩

theorem witness_TripleFault :
    let s := ring0.setExc { ring0.exc with lastType := .doubleFault }
    let u := { s with cfg := { Config.p0 with tripleFaultAction := .shutdown } }
    s.aborted = false ∧ 31#8 < 32#8 ∧ s.exc.lastType = .doubleFault ∧ s.cfg.tripleFaultAction = .reset
      ∧ plainAnswer s (.exc 13#8 (fixedCode 13#8 0#16 s.exc.extBit) (pushesCode 13#8) 3#3 s.exc.extBit s.exc.inEvent) = none
      ∧ u.exc.lastType = .doubleFault ∧ u.cfg.tripleFaultAction = .shutdown := ⟨rfl, by decide, rfl, rfl, rfl, rfl, rfl⟩

theorem softInt {s : State} {v : Vector8} (h : s.aborted = false) : IntEnters s v 4#3 false 0#16 :=
  ⟨h, by decide, fun h => absurd h (by decide)⟩

theorem breakInt {s : State} {v : Vector8} (h : s.aborted = false) (hn : s.cfg.nested = .none) :
    IntEnters s v 6#3 false 0#16 :=
  ⟨h, by decide, fun _ => by simp [plainAnswer, State.icptOn, hn]⟩

/-- An interrupt enters without a question to the layer. -/
theorem hwInt {s : State} {v : Vector8} (h : s.aborted = false) : IntEnters s v 0#3 false 0#16 :=
  ⟨h, by decide, fun h => absurd h (by decide)⟩

/-- R304, V10.9, V10.3 in its three forms, R374. -/
theorem witness_IntDelivers :
    (IntEnters real 0x21#8 4#3 false 0#16
        ∧ ∃ t, DeliversTo real 0x21#8 4#3 (false && decide (real.mode ≠ .real)) (if real.mode = .real then 0#16 else 0#16) t)
      ∧ (IntEnters ring0 0x41#8 4#3 false 0#16 ∧ ∃ t, DeliversTo ring0 0x41#8 4#3 false 0#16 t)
      ∧ (IntEnters ring3 0x80#8 4#3 false 0#16 ∧ ∃ t, DeliversTo ring3 0x80#8 4#3 false 0#16 t)
      ∧ (IntEnters ring3Tss16 0x80#8 4#3 false 0#16 ∧ ∃ t, DeliversTo ring3Tss16 0x80#8 4#3 false 0#16 t)
      ∧ (IntEnters virtual86 0x80#8 4#3 false 0#16 ∧ ∃ t, DeliversTo virtual86 0x80#8 4#3 false 0#16 t)
      ∧ (IntEnters long3 3#8 6#3 false 0#16 ∧ ∃ t, DeliversTo long3 3#8 6#3 false 0#16 t) :=
  ⟨⟨softInt rfl, _, .real real_ready⟩, ⟨softInt rfl, _, .same same_ready⟩, ⟨softInt rfl, _, .inner true inner_ready⟩,
    ⟨softInt rfl, _, .inner false inner_ready_tss16⟩, ⟨softInt rfl, _, .inner true inner_ready_v86⟩, breakInt rfl rfl, _,
    .long long_ready⟩

/-- One byte too few in the IVT and in the IDT (V10.7); a gate type that does not exist; V10.4; V10.8. -/
theorem witness_GateTests :
    (let s := real.setCtx { real.ctx with idtr := ⟨0#64, 0x86#16⟩ };
      IntEnters s 0x21#8 4#3 false 0#16 ∧ s.regs.lma = false ∧ s.regs.pe = false
        ∧ s.ctx.idtr.limit.toNat < 4 * (0x21#8 : Vector8).toNat + 3)
      ∧ (let s := ring0.setCtx { ring0.ctx with idtr := ⟨0x1000#64, 0x7FE#16⟩ }
        IntEnters s 0xFF#8 4#3 false 0#16 ∧ s.regs.lma = false ∧ s.regs.pe = true ∧ s.cfg.cetSupported = false
          ∧ s.ctx.idtr.limit.toNat < 8 * (0xFF#8 : Vector8).toNat + 7)
      ∧ (GateReached ring0 0x43#8 ∧ ¬protGateType (gateOf ring0 0x43#8))
      ∧ (GateReached ring3 0x30#8 ∧ protGateType (gateOf ring3 0x30#8) ∧ softType 4#3 = true
        ∧ (gateOf ring3 0x30#8).dpl < ring3.ctx.cpl)
      ∧ (GateReached ring0 0x40#8 ∧ protGateType (gateOf ring0 0x40#8)
        ∧ (softType 4#3 = true → ring0.ctx.cpl ≤ (gateOf ring0 0x40#8).dpl) ∧ (gateOf ring0 0x40#8).p = false) :=
  ⟨⟨softInt rfl, rfl, rfl, by decide⟩, ⟨softInt rfl, rfl, rfl, rfl, by decide⟩,
    ⟨⟨rfl, rfl, rfl, by decide, noAnswers rfl⟩, by unfold protGateType; decide⟩,
    ⟨⟨rfl, rfl, rfl, by decide, noAnswers rfl⟩, by unfold protGateType; decide, rfl, by decide⟩,
    ⟨rfl, rfl, rfl, by decide, noAnswers rfl⟩, by unfold protGateType; decide, by decide, by decide⟩

/-- The second word of the frame does not fit below 3; the handler lies beyond the limit of CS. -/
theorem witness_GateTests_real :
    (let s := real.setCtx { real.ctx with rsp := 3#64 };
      IntEnters s 0x21#8 0#3 false 0#16 ∧ ∃ u, RealFault s 0x21#8 12#8 0#16 u)
      ∧ (let s := real.setCtx { real.ctx with cs := ⟨0x1000#16, true, { real.ctx.cs.cache with limit := 0x1233#32 }⟩ }
        IntEnters s 0x21#8 0#3 false 0#16 ∧ ∃ u, RealFault s 0x21#8 13#8 0#16 u) :=
  ⟨⟨hwInt rfl, _, .stack 1 ⟨rfl, rfl, by decide, noAnswers rfl⟩ ⟨by decide, upTo 1 (by decide +kernel), by decide +kernel⟩⟩,
    hwInt rfl, _, .limit ⟨rfl, rfl, by decide, noAnswers rfl⟩ (upTo 3 (by decide +kernel)) (by decide +kernel)⟩

/-- `ring0` with gate 0x20 and the descriptor 0x20. -/
def gate20 (g d : Nat) (s : State) : State := poked 0x1100 8 g (poked 0x2020 8 d s)

/-- A null target, one outside the GDT, a data segment, an absent segment. -/
theorem witness_GateTests_code :
    (let s := gate20 0x00108E0000003000 0 ring0;
      IntEnters s 0x20#8 0#3 false 0#16 ∧ ∃ u, CodeFault s 0x20#8 false 13#8 0#16 u)
      ∧ (let s := gate20 0x00108E0000403000 0 ring0
        IntEnters s 0x20#8 0#3 false 0#16 ∧ ∃ u, CodeFault s 0x20#8 false 13#8 0x40#16 u)
      ∧ (let s := gate20 0x00108E0000103000 0 ring0
        IntEnters s 0x20#8 0#3 false 0#16 ∧ ∃ u, CodeFault s 0x20#8 false 13#8 0x10#16 u)
      ∧ (let s := gate20 0x00108E0000203000 0x00CF1B000000FFFF ring0
        IntEnters s 0x20#8 0#3 false 0#16 ∧ ∃ u, CodeFault s 0x20#8 false 11#8 0x20#16 u) :=
  ⟨⟨hwInt rfl, _, .null (gatePassed_of rfl (by decide +kernel)) (by decide +kernel)⟩,
    ⟨hwInt rfl, _, .table (gatePassed_of rfl (by decide +kernel)) (by decide +kernel) (by unfold descInTable; decide +kernel)⟩,
    ⟨hwInt rfl, _, .code (gatePassed_of rfl (by decide +kernel)) (by decide +kernel) (by unfold descInTable; decide +kernel)
      (by decide +kernel)⟩,
    hwInt rfl, _, .absent (gatePassed_of rfl (by decide +kernel)) (by decide +kernel) (by unfold descInTable; decide +kernel)
      (by decide +kernel) (by decide +kernel) (by decide +kernel)⟩

/-- V8086 and a target of its level; an offset beyond the target; the third entry does not fit. -/
theorem witness_GateTests_same :
    (let s := gate20 0x0010EE0000203000 0x00CFFB000000FFFF virtual86;
      IntEnters s 0x20#8 0#3 false 0#16 ∧ ∃ u, SameFault s 0x20#8 false false 13#8 0x20#16 u)
      ∧ (let s := gate20 0x00108E0000203000 0x00409B0000000FFF ring0
        IntEnters s 0x20#8 0#3 false 0#16 ∧ ∃ u, SameFault s 0x20#8 false false 13#8 0#16 u)
      ∧ (let s := ring0.setCtx
          { ring0.ctx with
            rsp := 8#64
            ss := ⟨0x10#16, true, { ring0.ctx.ss.cache with limit := 0xFFFFFFFE#32 }⟩ }
        IntEnters s 0x41#8 0#3 false 0#16 ∧ ∃ u, SameFault s 0x41#8 false false 12#8 0#16 u) :=
  ⟨⟨hwInt rfl, _, .v86 (codePassed_of (gatePassed_of rfl (by decide +kernel)) (by unfold descInTable; decide +kernel)
      (by decide +kernel)) (by decide +kernel) (by decide +kernel)⟩,
    ⟨hwInt rfl, _, .limit (codePassed_of (gatePassed_of rfl (by decide +kernel)) (by unfold descInTable; decide +kernel)
      (by decide +kernel)) (by decide +kernel) (by decide +kernel) (by decide +kernel)⟩,
    hwInt rfl, _, .stack 2 ⟨codePassed_of (gatePassed_of rfl (by decide +kernel)) (by unfold descInTable; decide +kernel)
      (by decide +kernel), by decide +kernel⟩ (by decide +kernel) (by decide +kernel)
      ⟨by decide +kernel, upTo 2 (by decide +kernel), by decide +kernel⟩⟩

/-- `ring3`, with the target code segment, the stack of level 0 in the TSS and the descriptor 0x20 it may select. -/
def toRing0 (code ss0 d : Nat) : State :=
  poked 0x2008 8 code (poked 0x3008 2 ss0 (poked 0x2020 8 d ring3))

/-- Code and stack as `tables` has them. -/
abbrev code0 : Nat := 0x00CF9B000000FFFF

/-- The TSS too short; V8086 and level 1; SS0 null, outside the GDT, a code segment, absent; an offset beyond the target;
the third entry does not fit. -/
theorem witness_GateTests_inner :
    (let s := (toRing0 code0 0x10 0).setCtx { ring3.ctx with tr := tssReg 0x3000#64 0xA#32 };
      IntEnters s 0x80#8 0#3 false 0#16 ∧ ∃ u, InnerFault s 0x80#8 false false true 10#8 0x28#16 u)
      ∧ (let s := (toRing0 0x00CFBB000000FFFF 0x10 0).setCtx virtual86.ctx
        IntEnters s 0x80#8 0#3 false 0#16 ∧ ∃ u, InnerFault s 0x80#8 false false true 13#8 0x8#16 u)
      ∧ (let s := toRing0 code0 0 0
        IntEnters s 0x80#8 0#3 false 0#16 ∧ ∃ u, InnerFault s 0x80#8 false false true 10#8 0#16 u)
      ∧ (let s := toRing0 code0 0x48 0
        IntEnters s 0x80#8 0#3 false 0#16 ∧ ∃ u, InnerFault s 0x80#8 false false true 10#8 0x48#16 u)
      ∧ (let s := toRing0 code0 8 0
        IntEnters s 0x80#8 0#3 false 0#16 ∧ ∃ u, InnerFault s 0x80#8 false false true 10#8 8#16 u)
      ∧ (let s := toRing0 code0 0x20 0x00CF13000000FFFF
        IntEnters s 0x80#8 0#3 false 0#16 ∧ ∃ u, InnerFault s 0x80#8 false false true 12#8 0x20#16 u)
      ∧ (let s := toRing0 0x00409B0000000FFF 0x10 0
        IntEnters s 0x80#8 0#3 false 0#16 ∧ ∃ u, InnerFault s 0x80#8 false false true 13#8 0#16 u)
      ∧ (let s := poked 0x3004 4 8 (toRing0 code0 0x20 0x0040930000000FFF)
        IntEnters s 0x80#8 0#3 false 0#16 ∧ ∃ u, InnerFault s 0x80#8 false false true 12#8 0x20#16 u) := by
  refine ⟨⟨hwInt rfl, _, .tss ⟨codePassed_of (gatePassed_of rfl ?_) ?_ ?_, ?_, ?_⟩ ?_ (Or.inr ?_) ?_⟩,
    ⟨hwInt rfl, _, .v86 ⟨⟨codePassed_of (gatePassed_of rfl ?_) ?_ ?_, ?_, ?_⟩, ?_, Or.inr ?_, ?_⟩ ?_ ?_⟩,
    ⟨hwInt rfl, _, .null ⟨⟨codePassed_of (gatePassed_of rfl ?_) ?_ ?_, ?_, ?_⟩, ?_, Or.inr ?_, ?_⟩ ?_ ?_⟩,
    ⟨hwInt rfl, _, .table ⟨⟨codePassed_of (gatePassed_of rfl ?_) ?_ ?_, ?_, ?_⟩, ?_, Or.inr ?_, ?_⟩ ?_ ?_ ?_⟩,
    ⟨hwInt rfl, _, .segment ⟨⟨codePassed_of (gatePassed_of rfl ?_) ?_ ?_, ?_, ?_⟩, ?_, Or.inr ?_, ?_⟩ ?_ ?_ ?_ ?_⟩,
    ⟨hwInt rfl, _, .absent ⟨⟨codePassed_of (gatePassed_of rfl ?_) ?_ ?_, ?_, ?_⟩, ?_, Or.inr ?_, ?_⟩ ?_ ?_ ?_ ?_ ?_ ?_ ?_⟩,
    ⟨hwInt rfl, _, .limit ⟨⟨⟨codePassed_of (gatePassed_of rfl ?_) ?_ ?_, ?_, ?_⟩, ?_, Or.inr ?_, ?_⟩, ?_, ?_, ?_, ?_, ?_, ?_,
      ?_⟩ ?_⟩,
    hwInt rfl, _, .stack 2 ⟨⟨⟨codePassed_of (gatePassed_of rfl ?_) ?_ ?_, ?_, ?_⟩, ?_, Or.inr ?_, ?_⟩, ?_, ?_, ?_, ?_, ?_, ?_,
      ?_⟩ ?_ ⟨?_, upTo 2 ?_, ?_⟩⟩ <;>
    first | decide +kernel | (unfold descInTable; decide +kernel)

/-- TR not valid; TR no TSS. -/
theorem witness_GateTests_noTss :
    (let s := ring3.setCtx { ring3.ctx with tr := { ring3.ctx.tr with valid := false } };
      IntEnters s 0x80#8 0#3 false 0#16 ∧ InnerAbort s 0x80#8 false .trInvalid)
      ∧ (let s := ring3.setCtx { ring3.ctx with tr := { ring3.ctx.tr with cache := { ring3.ctx.tr.cache with type := 2#4 } } }
        IntEnters s 0x80#8 0#3 false 0#16 ∧ InnerAbort s 0x80#8 false .trType) := by
  refine ⟨⟨hwInt rfl, .trInvalid ⟨codePassed_of (gatePassed_of rfl ?_) ?_ ?_, ?_, ?_⟩ ?_⟩, hwInt rfl,
    .trType ⟨codePassed_of (gatePassed_of rfl ?_) ?_ ?_, ?_, ?_⟩ ?_ ?_⟩ <;>
    first | decide +kernel | (unfold descInTable; decide +kernel) | (unfold tss32 tss16; decide +kernel)

/-- `long3` with a 16-bit gate at 5, a gate that is not present at 6, and one whose second half is not clear at 7. -/
def longGates : State :=
  { long3 with
    mem :=
      bytes 0x10050 8 0xFFFFE60000081000 ++ bytes 0x10060 8 0xFFFF6F0000081000 ++ bytes 0x10070 8 0xFFFFEF0000081000
        ++ bytes 0x10078 8 0x010000000000 }

theorem witness_LongGateTests :
    (let s := long3.setCtx { long3.ctx with idtr := ⟨0x10000#64, 0x3E#16⟩ };
      IntEnters s 3#8 6#3 false 0#16 ∧ s.regs.lma = true ∧ s.cfg.cetSupported = false
        ∧ s.ctx.idtr.limit.toNat < 16 * (3#8 : Vector8).toNat + 15)
      ∧ (IntEnters longGates 7#8 4#3 false 0#16 ∧ LongGateReached longGates 7#8
        ∧ (longHigh longGates 7#8).extractLsb' 40 5 ≠ 0#5)
      ∧ (LongGateReached longGates 5#8 ∧ ¬longGateType longGates 5#8)
      ∧ (LongGateReached long3 13#8 ∧ (longHigh long3 13#8).extractLsb' 40 5 = 0#5 ∧ longGateType long3 13#8
        ∧ softType 4#3 = true ∧ (longGateOf long3 13#8).dpl < long3.ctx.cpl)
      ∧ (LongGateReached longGates 6#8 ∧ (longHigh longGates 6#8).extractLsb' 40 5 = 0#5 ∧ longGateType longGates 6#8
        ∧ longGates.ctx.cpl ≤ (longGateOf longGates 6#8).dpl ∧ (longGateOf longGates 6#8).p = false) :=
  ⟨⟨breakInt rfl rfl, rfl, rfl, by decide⟩, ⟨softInt rfl, ⟨rfl, rfl, by decide, noAnswers rfl⟩, by decide⟩,
    ⟨⟨rfl, rfl, by decide, noAnswers rfl⟩, by unfold longGateType; decide⟩,
    ⟨⟨rfl, rfl, by decide, noAnswers rfl⟩, by decide, by unfold longGateType; decide, rfl, by decide⟩,
    ⟨rfl, rfl, by decide, noAnswers rfl⟩, by decide, by unfold longGateType; decide, by decide, by decide⟩

/-- `long3` with gate 5, the descriptor 0x10 and RSP0 in the TSS. -/
def gate5 (g q1 d rsp0 : Nat) : State :=
  poked 0x10050 8 g (poked 0x10058 8 q1 (poked 0x20010 8 d (poked 0x30004 8 rsp0 long3)))

/-- RSP0 as `long3` has it. -/
abbrev rsp00 : Nat := 0xFFFF800000010008

/-- A null target, one outside the GDT, not 64-bit, absent; the TSS too short; the third slot and the offset not canonical. -/
theorem witness_LongGateTests_later :
    (let s := gate5 0xFFFF8E0000001000 0 0 rsp00;
      IntEnters s 5#8 0#3 false 0#16 ∧ ∃ u, LongFault s 5#8 false false 0#16 13#8 0#16 u)
      ∧ (let s := gate5 0xFFFF8E0000801000 0 0 rsp00
        IntEnters s 5#8 0#3 false 0#16 ∧ ∃ u, LongFault s 5#8 false false 0#16 13#8 0x80#16 u)
      ∧ (let s := gate5 0xFFFF8E0000101000 0 0x00CF9B000000FFFF rsp00
        IntEnters s 5#8 0#3 false 0#16 ∧ ∃ u, LongFault s 5#8 false false 0#16 13#8 0x10#16 u)
      ∧ (let s := gate5 0xFFFF8E0000101000 0 0x00AF1B000000FFFF rsp00
        IntEnters s 5#8 0#3 false 0#16 ∧ ∃ u, LongFault s 5#8 false false 0#16 11#8 0x10#16 u)
      ∧ (let s := (gate5 0xFFFF8E0000081000 0 0 rsp00).setCtx { long3.ctx with tr := tssReg 0x30000#64 0xA#32 }
        IntEnters s 5#8 0#3 false 0#16 ∧ ∃ u, LongFault s 5#8 false false 0#16 10#8 0x28#16 u)
      ∧ (let s := gate5 0xFFFF8E0000081000 0 0 0xFFFF800000000010
        IntEnters s 5#8 0#3 false 0#16 ∧ ∃ u, LongFault s 5#8 false false 0#16 12#8 0#16 u)
      ∧ (let s := gate5 0xFFFF8E0000081000 0x8000 0 rsp00
        IntEnters s 5#8 0#3 false 0#16 ∧ ∃ u, LongFault s 5#8 false false 0#16 13#8 0#16 u) := by
  refine ⟨⟨hwInt rfl, _, .null (longGatePassed_of rfl ?_) ?_⟩,
    ⟨hwInt rfl, _, .table (longGatePassed_of rfl ?_) ?_ ?_⟩,
    ⟨hwInt rfl, _, .code (longGatePassed_of rfl ?_) ?_ ?_ ?_⟩,
    ⟨hwInt rfl, _, .absent (longGatePassed_of rfl ?_) ?_ ?_ ?_ ?_ ?_ ?_⟩,
    ⟨hwInt rfl, _, .tss 0 (longCodePassed_of (longGatePassed_of rfl ?_) ?_ ?_) ?_ ?_ (Or.inr ?_) ?_⟩,
    ⟨hwInt rfl, _, .stack 2 ⟨longCodePassed_of (longGatePassed_of rfl ?_) ?_ ?_, level0_stack ?_ ?_⟩ ?_ (upTo 2 ?_) ?_⟩,
    hwInt rfl, _, .offset ⟨longCodePassed_of (longGatePassed_of rfl ?_) ?_ ?_, level0_stack ?_ ?_⟩ (upTo 5 ?_) ?_⟩ <;>
    first | decide +kernel | (unfold descInTable; decide +kernel)

/-- TR not valid; TR a 16-bit TSS. -/
theorem witness_LongGateTests_noTss :
    (let s := (gate5 0xFFFF8E0000081000 0 0 rsp00).setCtx { long3.ctx with tr := { long3.ctx.tr with valid := false } };
      IntEnters s 5#8 0#3 false 0#16 ∧ LongAbort s 5#8 false .trInvalid)
      ∧ (let s := (gate5 0xFFFF8E0000081000 0 0 rsp00).setCtx
          { long3.ctx with tr := { long3.ctx.tr with cache := { long3.ctx.tr.cache with type := 3#4 } } }
        IntEnters s 5#8 0#3 false 0#16 ∧ LongAbort s 5#8 false .trType) := by
  refine ⟨⟨hwInt rfl, .trInvalid 0 (longCodePassed_of (longGatePassed_of rfl ?_) ?_ ?_) ?_ ?_⟩, hwInt rfl,
    .trType 0 (longCodePassed_of (longGatePassed_of rfl ?_) ?_ ?_) ?_ ?_ ?_⟩ <;>
    first | decide +kernel | (unfold descInTable; decide +kernel) | (unfold tss32; decide +kernel)

/-- The task gate of `tables`; its TSS in the LDT, outside the GDT, no TSS, absent. -/
theorem witness_TaskGateHandsOver :
    (IntEnters ring0 0x42#8 4#3 false 0#16 ∧ TaskGateReady ring0 0x42#8 (softType 4#3))
      ∧ (∃ u, TaskGateFault (gate20 0x0000850000240000 0 ring0) 0x20#8 false 13#8 0x24#16 u)
      ∧ (∃ u, TaskGateFault (gate20 0x0000850000400000 0 ring0) 0x20#8 false 13#8 0x40#16 u)
      ∧ (∃ u, TaskGateFault (gate20 0x0000850000200000 0x0000830000000067 ring0) 0x20#8 false 13#8 0x20#16 u)
      ∧ (∃ u, TaskGateFault (gate20 0x0000850000200000 0x0000090000000067 ring0) 0x20#8 false 11#8 0x20#16 u)
      ∧ IntEnters (gate20 0x0000850000200000 0x0000090000000067 ring0) 0x20#8 0#3 false 0#16 := by
  refine ⟨⟨softInt rfl, taskGate_of rfl ?_, ?_, ?_, ?_, ?_⟩, ⟨_, .ldt (taskGate_of rfl ?_) ?_⟩,
    ⟨_, .table (taskGate_of rfl ?_) ?_ ?_⟩, ⟨_, .tss (taskGate_of rfl ?_) ?_ ?_ ?_⟩,
    ⟨_, .absent (taskGate_of rfl ?_) ?_ ?_ ?_ ?_⟩, hwInt rfl⟩ <;>
    first | decide +kernel | (unfold descInTable; decide +kernel)

/-- The four kinds of frame, each with the byte below it. -/
theorem witness_DeliveryStoresOnlyItsFrame :
    (IntEnters real 0x21#8 4#3 false 0#16 ∧ real.mem.wf = true ∧ RealReady real 0x21#8
        ∧ (∀ k j, 1 ≤ k → k ≤ 3 → j < 2 → 0x3F9 ≠ (slotAddr real.ctx 2 k + BitVec.ofNat 64 j).toNat)
        ∧ ∃ t, exec (.int 0x21#8 4#3 false 0#16) real = .next t ∧ (t.kind == 2#4) = true)
      ∧ (IntEnters ring0 0x41#8 4#3 false 0#16 ∧ ring0.mem.wf = true ∧ SameReady ring0 0x41#8 (softType 4#3) false
        ∧ ∃ t, exec (.int 0x41#8 4#3 false 0#16) ring0 = .next t ∧ (t.kind == 2#4) = true)
      ∧ (IntEnters ring3 0x80#8 4#3 false 0#16 ∧ ring3.mem.wf = true ∧ InnerReady ring3 0x80#8 (softType 4#3) false true
        ∧ ∃ t, exec (.int 0x80#8 4#3 false 0#16) ring3 = .next t ∧ (t.kind == 2#4) = true)
      ∧ (IntEnters long3 3#8 6#3 false 0#16 ∧ long3.mem.wf = true ∧ LongReady long3 3#8 (softType 6#3) false
        ∧ ∃ t, exec (.int 3#8 6#3 false 0#16) long3 = .next t ∧ (t.kind == 2#4) = true) := by
  refine ⟨⟨softInt rfl, by decide +kernel, real_ready, ?_, next_of_ends (by decide +kernel)⟩,
    ⟨softInt rfl, by decide +kernel, same_ready, next_of_ends (by decide +kernel)⟩,
    ⟨softInt rfl, by decide +kernel, inner_ready, next_of_ends (by decide +kernel)⟩, breakInt rfl rfl, by decide +kernel,
    long_ready, next_of_ends (by decide +kernel)⟩
  have h : ∀ k, 1 ≤ k → k ≤ 3 → ∀ j, j < 2 → 0x3F9 ≠ (slotAddr real.ctx 2 k + BitVec.ofNat 64 j).toNat := by decide
  exact fun k j low high hj => h k low high j hj

/-- The store that wraps at the top of the address space, and a byte beside it. -/
theorem witness_StoreThenRead :
    Memory.wf [] = true ∧ (8 = 2 ∨ 8 = 4 ∨ 8 = 8)
      ∧ ∀ j, j < 8 → 4 ≠ (0xFFFFFFFFFFFFFFFC#64 + BitVec.ofNat 64 j).toNat := by decide

end Sys2Proof.Tests
end

section
/-! SUPPORT. What a command's own rule can do before its exceptions are taken, for every row of the table: `FieldWrites R E`
lists the writes to one field of the state and the exits, and `FieldWrites.body` says that every command satisfies every
`Spec R E` that admits them. It is `DeliverySteps` with the writes of the validators and the scheduler added, for relations
that do not look at the values written. -/

namespace Sys2Proof.Machine

variable {R : State → State → Prop} {E : State → State → Stop → Prop} {α β : Type}

/-- The writes and exits of a command's own rule. -/
structure FieldWrites (R : State → State → Prop) (E : State → State → Stop → Prop) : Prop extends Chain R E where
  hist : ∀ s e, R s (s.setHist (s.hist ++ [e]))
  port : ∀ s p, R s (s.setPort p)
  mem : ∀ s m, R s (s.setMem m)
  regs : ∀ s r, R s (s.setRegs r)
  ctx : ∀ s c, R s (s.setCtx c)
  sched : ∀ s d, R s (s.setSched d)
  exc : ∀ s e, R s (s.setExc e)
  tpr : ∀ s t, R s (s.setTpr t)
  vtpr : ∀ s t, R s (s.setVTpr t)
  aborted : ∀ s, R s (s.setAborted true)
  reset : ∀ s, R s (resetState s)
  raised : ∀ s v ec, E s s (.raise v ec)
  done : ∀ s a, E s s (.done a)
  refuse : ∀ s, s.cfg.cetSupported = true → E s s (.refuse .cetNotSpecified)

namespace FieldWrites

variable (h : FieldWrites R E)
include h

/-- A delivery writes no field that a command could not write itself. -/
theorem deliverySteps : DeliverySteps R E where
  toChain := h.toChain
  hist := h.hist
  port s := h.port s _
  mem s _ _ _ := h.mem s _
  cr2 s _ := h.regs s _
  ctx s c _ := h.ctx s c
  sched s := h.sched s _
  exc s e _ := h.exc s e
  raise s v ec _ := h.raised s v ec
  abort s r := h.pre (h.trans (h.aborted s) (h.hist _ (.abort r))) (h.done _ _)
  taskSw s _ t d p ec := h.pre (h.hist s (.taskSwitch t d p ec)) (h.done _ _)
  refuse := h.refuse

/-! ### The constructs of a rule (R7) -/

theorem skip (a : α) : Spec R E (pure a : M α) := Spec.pure h.toChain a

theorem andThen {m : M α} {f : α → M β} (hm : Spec R E m) (hf : ∀ a, Spec R E (f a)) : Spec R E (m >>= f) :=
  Spec.bind h.toChain hm hf

theorem reading {f : State → M β} (hf : ∀ s, Spec R E (f s)) : Spec R E (get >>= f) :=
  Spec.bind h.toChain (Spec.get h.toChain) hf

/-- A write, and the rest of the rule. -/
theorem writing {f : State → State} {m : M β} (hf : ∀ s, R s (f s)) (hm : Spec R E m) :
    Spec R E (modify f >>= fun _ => m) :=
  Spec.bind h.toChain (Spec.modify hf) fun _ => hm

theorem when {c : Prop} [Decidable c] {m : M Unit} (hm : Spec R E m) : Spec R E (if c then m else pure ()) :=
  Spec.ite (fun _ => hm) fun _ => h.skip ()

theorem raise (v : Vector8) (ec : Half) : Spec R E (raise v ec : M α) := fun s => h.raised s v ec

theorem raiseIf (c : Bool) (v : Vector8) (ec : Half) : Spec R E (raiseIf c v ec) := h.when (h.raise v ec)

theorem finish (a : Answer) : Spec R E (finish a : M α) := fun s => h.done s a

theorem abort (r : AbortReason) : Spec R E (abort r : M α) := fun s => h.deliverySteps.abort s r

theorem abortIf (c : Bool) (r : AbortReason) : Spec R E (abortIf c r) := h.when (h.abort r)

theorem emit (e : Event) : Spec R E (emit e) := Spec.modify fun s => h.hist s e

theorem emitIf (c : Bool) (e : Event) : Spec R E (emitIf c e) := h.when (h.emit e)

theorem emitMode : Spec R E emitMode := h.reading fun _ => h.emit _

theorem modifyRegs (f : ControlRegs → ControlRegs) : Spec R E (modifyRegs f) := Spec.modify fun s => h.regs s _

theorem modifyCtx (f : Context → Context) : Spec R E (modifyCtx f) := Spec.modify fun s => h.ctx s _

theorem modifySched (f : Sched → Sched) : Spec R E (modifySched f) := Spec.modify fun s => h.sched s _

theorem modifyExc (f : ExcState → ExcState) : Spec R E (modifyExc f) := Spec.modify fun s => h.exc s _

/-! ### The intercept layer and the privilege check (R130, R153, R205 to R212) -/

theorem vmExit (i : ExitInfo) : Spec R E (vmExit i : M α) :=
  h.andThen (h.emit _) fun _ => h.andThen (h.modifyExc _) fun _ => h.finish _

theorem obeyPlain (a : Option ExitInfo) : Spec R E (obeyPlain a) := by
  cases a with
  | none => exact h.skip _
  | some i => exact h.vmExit i

theorem askPlain (q : PlainQuery) : Spec R E (askPlain q) := h.reading fun _ => h.obeyPlain _

theorem askExc (v : Vector8) (ec : Half) (p : Bool) (type : BitVec 3) : Spec R E (askExc v ec p type) :=
  h.reading fun _ => h.obeyPlain _

theorem obeyWrite (a : RegAnswer) : Spec R E (obeyWrite a) := by
  cases a with
  | pass => exact h.skip _
  | exit i => exact h.vmExit i
  | handled x vtpr => exact h.finish _

theorem obeyRead (a : RegAnswer) (cur : Word) : Spec R E (obeyRead a cur) := by
  cases a with
  | pass => exact h.skip _
  | exit i => exact h.vmExit i
  | handled x vtpr => exact h.skip _

theorem requireCpl0 : Spec R E requireCpl0 := h.reading fun _ => h.raiseIf _ _ _

/-! ### The control registers (R131 to R153) -/

theorem readPdptes (base : Word) (left i : Nat) : Spec R E (readPdptes base left i) := by
  induction left generalizing i with
  | zero => exact h.skip _
  | succ left ih =>
    exact h.andThen (h.andThen (h.emit _) fun _ => h.reading fun _ => h.skip _) fun _ => h.reading fun _ =>
      Spec.ite (fun _ => h.skip _) fun _ => h.andThen (ih _) fun _ => h.skip _

theorem loadPdptes (es : Option (List Word)) : Spec R E (loadPdptes es) := by
  unfold Machine.loadPdptes
  split
  · exact h.emit _
  · exact h.raise _ _

theorem pdptesIf (b : Bool) (c : Word) : Spec R E (pdptesIf b c) :=
  h.when (h.andThen (h.readPdptes _ _ _) fun _ => h.loadPdptes _)

theorem longEntry : Spec R E longEntry :=
  h.reading fun _ => h.when <| h.andThen (h.raiseIf _ _ _) fun _ => h.andThen (h.raiseIf _ _ _) fun _ =>
    h.andThen (h.raiseIf _ _ _) fun _ => h.modifyRegs _

theorem longExit : Spec R E longExit :=
  h.reading fun _ => h.andThen (h.raiseIf _ _ _) fun _ => h.when <| h.andThen (h.raiseIf _ _ _) fun _ => h.modifyRegs _

theorem pgTransition (old new : Bool) : Spec R E (pgTransition old new) :=
  Spec.ite (fun _ => h.longEntry) fun _ => h.when h.longExit

theorem wrcr0 (v : Word) : Spec R E (wrcr0 v) :=
  h.andThen h.requireCpl0 fun _ => h.reading fun _ => h.andThen (h.obeyWrite _) fun _ =>
    h.andThen (h.raiseIf _ _ _) fun _ => h.andThen (h.pgTransition _ _) fun _ =>
    h.andThen (h.reading fun _ => h.pdptesIf _ _) fun _ => h.andThen (h.modifyRegs _) fun _ =>
    h.andThen (h.andThen (h.emitIf _ _) fun _ => h.emitMode) fun _ => h.skip _

theorem wrcr2 (v : Word) : Spec R E (wrcr2 v) :=
  h.andThen h.requireCpl0 fun _ => h.reading fun _ => h.andThen (h.obeyWrite _) fun _ =>
    h.andThen (h.modifyRegs _) fun _ => h.skip _

theorem requireLegalCr3 (v : Word) : Spec R E (requireLegalCr3 v) :=
  h.reading fun _ => Spec.ite (fun _ => h.raiseIf _ _ _) fun _ => h.abortIf _ _

theorem wrcr3 (v : Word) : Spec R E (wrcr3 v) :=
  h.andThen h.requireCpl0 fun _ => h.reading fun _ => h.andThen (h.obeyWrite _) fun _ =>
    h.andThen (h.requireLegalCr3 _) fun _ => h.andThen (h.pdptesIf _ _) fun _ => h.andThen (h.modifyRegs _) fun _ =>
    h.andThen (h.reading fun _ => h.emitIf _ _) fun _ => h.skip _

theorem wrcr4 (v : Word) : Spec R E (wrcr4 v) :=
  h.andThen h.requireCpl0 fun _ => h.reading fun _ => h.andThen (h.obeyWrite _) fun _ =>
    h.andThen (h.raiseIf _ _ _) fun _ => h.andThen (h.pdptesIf _ _) fun _ => h.andThen (h.modifyRegs _) fun _ =>
    h.andThen (h.emitIf _ _) fun _ => h.andThen h.emitMode fun _ => h.skip _

theorem setVmxVTpr (set : Bool) (s : State) : R s (setVmxVTpr set s) := by
  unfold Machine.setVmxVTpr
  split
  · exact h.sched s _
  · exact h.refl s

theorem obeyCr8Write (a : RegAnswer) : Spec R E (obeyCr8Write a) := by
  cases a with
  | pass => exact h.skip _
  | exit i => exact h.vmExit i
  | handled x vtpr => exact h.writing (h.setVmxVTpr vtpr) (h.finish _)

theorem setTaskPriority (t : BitVec 8) : Spec R E (setTaskPriority t) :=
  h.reading fun _ => Spec.ite (fun _ => h.writing (fun s => h.vtpr s t) (h.emit _)) fun _ =>
    h.writing (fun s => h.tpr s t) (h.emit _)

theorem wrcr8 (v : Word) : Spec R E (wrcr8 v) :=
  h.reading fun _ => h.andThen (h.raiseIf _ _ _) fun _ => h.andThen h.requireCpl0 fun _ =>
    h.andThen (h.obeyCr8Write _) fun _ => h.andThen (h.raiseIf _ _ _) fun _ => h.andThen (h.setTaskPriority _) fun _ =>
    h.skip _

theorem rdcr (n : CrNum) : Spec R E (rdcr n) :=
  h.andThen h.requireCpl0 fun _ => h.reading fun _ => h.obeyRead _ _

theorem rdcr8 : Spec R E rdcr8 := h.reading fun _ => h.andThen (h.raiseIf _ _ _) fun _ => h.rdcr _

theorem undefinedRegister : Spec R E undefinedRegister := h.raise _ _

/-! ### The debug registers (R173 to R179) -/

theorem generalDetect : Spec R E generalDetect :=
  h.reading fun _ => h.when <| h.andThen (h.modifySched _) fun _ => h.raise _ _

theorem drAccess (n : DrNum) (dir : Dir) : Spec R E (drAccess n dir) :=
  h.andThen h.generalDetect fun _ => h.andThen h.requireCpl0 fun _ => h.askPlain _

theorem requireAlias : Spec R E requireAlias := h.reading fun _ => h.raiseIf _ _ _

theorem wrdrAddr (n : DrNum) (v : Word) : Spec R E (wrdrAddr n v) :=
  h.andThen (h.drAccess _ _) fun _ => h.reading fun _ => h.andThen (h.raiseIf _ _ _) fun _ =>
    h.andThen (h.modifyRegs _) fun _ => h.skip _

theorem wrdrStatus (v : Word) : Spec R E (wrdrStatus v) :=
  h.andThen (h.drAccess _ _) fun _ => h.andThen (h.raiseIf _ _ _) fun _ => h.writing (fun s => h.regs s _) (h.skip _)

theorem wrdrControl (v : Word) : Spec R E (wrdrControl v) :=
  h.andThen (h.drAccess _ _) fun _ => h.andThen (h.raiseIf _ _ _) fun _ => h.writing (fun s => h.regs s _) (h.skip _)

theorem rddr (n : DrNum) : Spec R E (rddr n) := h.andThen (h.drAccess _ _) fun _ => h.reading fun _ => h.skip _

theorem wrdr4 (v : Word) : Spec R E (wrdr4 v) := h.andThen h.requireAlias fun _ => h.wrdrStatus v

theorem wrdr5 (v : Word) : Spec R E (wrdr5 v) := h.andThen h.requireAlias fun _ => h.wrdrControl v

theorem rddrAlias (n : DrNum) : Spec R E (rddrAlias n) := h.andThen h.requireAlias fun _ => h.rddr n

/-! ### EFER, XCR0 and IA32_XSS (R160 to R171) -/

theorem wrefer (v : Word) : Spec R E (wrefer v) :=
  h.andThen h.requireCpl0 fun _ => h.reading fun _ => h.andThen (h.obeyWrite _) fun _ =>
    h.andThen (h.raiseIf _ _ _) fun _ => h.andThen (h.raiseIf _ _ _) fun _ => h.andThen (h.modifyRegs _) fun _ =>
    h.skip _

theorem rdefer : Spec R E rdefer := h.andThen h.requireCpl0 fun _ => h.reading fun _ => h.obeyRead _ _

theorem requireOsxsave : Spec R E requireOsxsave := h.reading fun _ => h.raiseIf _ _ _

theorem wrxcr (i : BitVec 8) (v : Word) : Spec R E (wrxcr i v) :=
  h.andThen h.requireOsxsave fun _ => h.andThen h.requireCpl0 fun _ => h.reading fun _ =>
    h.andThen (h.obeyWrite _) fun _ => h.andThen (h.raiseIf _ _ _) fun _ => h.andThen (h.raiseIf _ _ _) fun _ =>
    h.andThen (h.modifyRegs _) fun _ => h.andThen h.emitMode fun _ => h.skip _

theorem rdxcr (i : BitVec 8) : Spec R E (rdxcr i) :=
  h.andThen h.requireOsxsave fun _ => h.andThen (h.raiseIf _ _ _) fun _ => h.reading fun _ => h.skip _

theorem wrxss (v : Word) : Spec R E (wrxss v) :=
  h.andThen h.requireCpl0 fun _ => h.reading fun _ => h.andThen (h.obeyWrite _) fun _ =>
    h.andThen (h.raiseIf _ _ _) fun _ => h.andThen (h.raiseIf _ _ _) fun _ => h.andThen (h.modifyRegs _) fun _ =>
    h.skip _

theorem rdxss : Spec R E rdxss :=
  h.andThen h.requireCpl0 fun _ => h.reading fun _ => h.andThen (h.raiseIf _ _ _) fun _ => h.obeyRead _ _

/-! ### The I/O permission check (R190 to R200) -/

theorem bitmapWord (port : Half) (width : BitVec 8) : Spec R E (bitmapWord port width) :=
  h.reading fun _ => h.andThen (h.deliverySteps.memRead _ _ _) fun _ => Spec.ite (fun _ => h.skip _) fun _ =>
    h.andThen (h.deliverySteps.memRead _ _ _) fun _ => h.skip _

theorem bitmapGrants (port : Half) (width : BitVec 8) : Spec R E (bitmapGrants port width) :=
  h.reading fun _ => Spec.ite (fun _ => h.skip _) fun _ => Spec.ite (fun _ => h.bitmapWord _ _) fun _ => h.skip _

theorem denyUnless (granted : Bool) : Spec R E (denyUnless granted) :=
  Spec.ite (fun _ => h.skip _) fun _ => h.finish _

theorem chkio (width : BitVec 8) (out rep : Bool) (port : Half) : Spec R E (chkio width out rep port) :=
  h.andThen (h.abortIf _ _) fun _ => h.andThen (h.bitmapGrants _ _) fun _ => h.andThen (h.denyUnless _) fun _ =>
    h.andThen (h.askPlain _) fun _ => h.writing (fun s => h.sched s _) (h.skip _)

/-! ### The scheduler's feeders (R245 to R249) -/

theorem signal (e : BitVec 4) (level : Bool) : Spec R E (signal e level) :=
  h.andThen (h.abortIf _ _) fun _ => h.andThen (h.modifySched _) fun _ => h.skip _

theorem evmask (e : BitVec 4) (mask : Bool) : Spec R E (evmask e mask) := h.andThen (h.modifySched _) fun _ => h.skip _

theorem inhibit (m : BitVec 2) : Spec R E (inhibit m) := h.andThen (h.modifySched _) fun _ => h.skip _

theorem dbgtrap (b : Half) : Spec R E (dbgtrap b) :=
  h.andThen (h.abortIf _ _) fun _ => h.andThen (h.modifySched _) fun _ => h.skip _

theorem activity (code : BitVec 3) : Spec R E (activity code) := by
  unfold Machine.activity
  cases activityOf code with
  | none => exact h.abort _
  | some a => exact h.andThen (h.modifySched _) fun _ => h.andThen (h.modifyCtx _) fun _ => h.skip _

/-! ### Exceptions, interrupts and snapshots (R260, R276 to R278, R290) -/

theorem raiseCommand (v : Vector8) (ec : Half) (addr : Word) : Spec R E (raiseCommand v ec addr) :=
  h.andThen (h.when (h.modifyRegs _)) fun _ => h.raise _ _

theorem intCommand (v : Vector8) (type : BitVec 3) (push : Bool) (ec : Half) : Spec R E (intCommand v type push ec) :=
  h.andThen (h.abortIf _ _) fun _ => h.andThen (h.when (h.askExc _ _ _ _)) fun _ => h.reading fun _ =>
    h.andThen (h.deliverySteps.deliver _ _ _ _) fun _ => h.skip _

theorem instrStart : Spec R E instrStart := h.writing (fun s => h.exc s _) (h.skip _)

theorem specRsp : Spec R E specRsp := h.writing (fun s => h.exc s _) (h.skip _)

theorem commitRsp : Spec R E commitRsp := h.andThen (h.modifyExc _) fun _ => h.skip _

/-! ### The pass `BOUNDARY` (R220 to R253) -/

theorem clearPending (e : Nat) : Spec R E (clearPending e) := h.modifySched _

theorem stepKill : Spec R E stepKill := h.reading fun _ => h.when (h.finish _)

theorem haltedFirst : Spec R E haltedFirst :=
  h.reading fun _ => h.when <| h.andThen h.stepKill fun _ => h.reading fun _ =>
    Spec.ite (fun _ => h.modifySched _) fun _ => h.finish _

theorem stepTaskTrap : Spec R E stepTaskTrap := h.reading fun _ => h.raiseIf _ _ _

theorem apicTrap (e : Nat) : Spec R E (apicTrap e) :=
  h.reading fun _ => h.when <| h.andThen (h.clearPending _) fun _ => h.obeyPlain _

theorem stepApic : Spec R E stepApic :=
  h.andThen (h.apicTrap _) fun _ => h.andThen (h.apicTrap _) fun _ => h.apicTrap _

theorem stepSmi : Spec R E stepSmi :=
  h.reading fun _ => h.when <| h.andThen (h.clearPending _) fun _ => h.andThen (h.askPlain _) fun _ =>
    h.andThen (h.emit _) fun _ => h.finish _

theorem stepInit : Spec R E stepInit :=
  h.reading fun _ => h.when <| h.andThen (h.clearPending _) fun _ => h.andThen (h.askPlain _) fun _ =>
    h.writing h.reset <| h.andThen (h.emit _) fun _ => h.finish _

theorem stepMtf : Spec R E stepMtf :=
  h.reading fun _ => h.when <| h.andThen (h.clearPending _) fun _ => h.vmExit _

theorem stepDebug : Spec R E stepDebug :=
  h.reading fun _ => Spec.ite (fun _ => h.modifySched _) fun _ => h.raiseIf _ _ _

theorem deliverAsync (v : Vector8) (type : BitVec 3) : Spec R E (deliverAsync v type) :=
  h.andThen (h.deliverySteps.deliver _ _ _ _) fun _ => h.writing (fun s => h.exc s _) (h.skip _)

theorem takeNmi : Spec R E takeNmi :=
  h.andThen (h.modifySched _) fun _ => h.andThen (h.askPlain _) fun _ => h.andThen (h.modifyExc _) fun _ =>
    h.deliverAsync _ _

theorem takeExternal (v : Vector8) : Spec R E (takeExternal v) :=
  h.andThen (h.emit _) fun _ => h.andThen (h.askPlain _) fun _ => h.andThen (h.modifyExc _) fun _ => h.deliverAsync _ _

theorem takeVirtual : Spec R E takeVirtual :=
  h.andThen (h.clearPending _) fun _ => h.reading fun _ => h.andThen (h.modifyExc _) fun _ => h.deliverAsync _ _

theorem takeLapic : Spec R E takeLapic :=
  h.andThen (h.clearPending _) fun _ => h.reading fun _ => h.takeExternal _

theorem takePic : Spec R E takePic :=
  h.andThen (h.clearPending _) fun _ => h.reading fun _ => h.takeExternal _

theorem takeMaskable : Spec R E takeMaskable :=
  h.reading fun _ => Spec.ite (fun _ => h.takeVirtual) fun _ => Spec.ite (fun _ => h.takeLapic) fun _ => h.takePic

theorem takeSvmVirq : Spec R E takeSvmVirq :=
  h.andThen (h.clearPending _) fun _ => h.reading fun _ => h.andThen (h.emit _) fun _ =>
    h.andThen (h.askPlain _) fun _ => h.deliverAsync _ _

theorem takeDma : Spec R E takeDma :=
  h.andThen (h.clearPending _) fun _ => h.andThen (h.emit _) fun _ => h.skip _

theorem takePreempt : Spec R E takePreempt := h.andThen (h.clearPending _) fun _ => h.vmExit _

theorem stepInterrupts : Spec R E stepInterrupts :=
  h.reading fun _ => Spec.ite (fun _ => h.skip _) fun _ => Spec.ite (fun _ => h.takePreempt) fun _ =>
    Spec.ite (fun _ => h.vmExit _) fun _ => Spec.ite (fun _ => h.takeNmi) fun _ => Spec.ite (fun _ => h.vmExit _) fun _ =>
    Spec.ite (fun _ => h.takeMaskable) fun _ => Spec.ite (fun _ => h.takeSvmVirq) fun _ =>
    Spec.ite (fun _ => h.takeDma) fun _ => h.skip _

theorem armSingleStep (s : State) : R s (armSingleStep s) := by
  unfold Machine.armSingleStep
  split
  · exact h.sched s _
  · exact h.refl s

theorem boundary : Spec R E boundary :=
  h.andThen h.haltedFirst fun _ => h.andThen h.stepKill fun _ => h.andThen h.stepTaskTrap fun _ =>
    h.andThen h.stepApic fun _ => h.andThen h.stepSmi fun _ => h.andThen h.stepInit fun _ =>
    h.andThen h.stepMtf fun _ => h.andThen h.stepDebug fun _ => h.andThen h.stepInterrupts fun _ =>
    h.writing h.armSingleStep <| h.writing (fun s => h.sched s _) (h.skip _)

end FieldWrites

/-! ### Every row -/

/-- The rule of a command, before `runCommand` takes its exceptions and gives its response. -/
def body : Instr → M Answer
  | .wrcr0 v => wrcr0 v
  | .wrcr2 v => wrcr2 v
  | .wrcr3 v => wrcr3 v
  | .wrcr4 v => wrcr4 v
  | .wrcr8 v => wrcr8 v
  | .wrcr1Ud | .wrcr5Ud | .wrcr6_7Ud _ | .wrcr9Ud | .wrcr10_11Ud _ | .wrcr12_15Ud _ => undefinedRegister
  | .rdcr0 => rdcr .cr0
  | .rdcr2 => rdcr .cr2
  | .rdcr3 => rdcr .cr3
  | .rdcr4 => rdcr .cr4
  | .rdcr8 => rdcr8
  | .rdcr1Ud | .rdcr5Ud | .rdcr6_7Ud _ | .rdcr9Ud | .rdcr10_11Ud _ | .rdcr12_15Ud _ => undefinedRegister
  | .wrdr0 v => wrdrAddr .dr0 v
  | .wrdr1 v => wrdrAddr .dr1 v
  | .wrdr2 v => wrdrAddr .dr2 v
  | .wrdr3 v => wrdrAddr .dr3 v
  | .wrdr4 v => wrdr4 v
  | .wrdr5 v => wrdr5 v
  | .wrdr6 v => wrdrStatus v
  | .wrdr7 v => wrdrControl v
  | .rddr0 => rddr .dr0
  | .rddr1 => rddr .dr1
  | .rddr2 => rddr .dr2
  | .rddr3 => rddr .dr3
  | .rddr4 => rddrAlias .dr6
  | .rddr5 => rddrAlias .dr7
  | .rddr6 => rddr .dr6
  | .rddr7 => rddr .dr7
  | .wrdr8_15Ud _ | .rddr8_15Ud _ => undefinedRegister
  | .wrefer v => wrefer v
  | .rdefer => rdefer
  | .wrxcr i v => wrxcr i v
  | .rdxcr i => rdxcr i
  | .wrxss v => wrxss v
  | .rdxss => rdxss
  | .chkio width out rep port => chkio width out rep port
  | .boundary => boundary
  | .inhibit m => inhibit m
  | .signal e level => signal e level
  | .evmask e mask => evmask e mask
  | .dbgtrap b => dbgtrap b
  | .activity a => activity a
  | .raise v ec addr => raiseCommand v ec addr
  | .int v type pushError ec => intCommand v type pushError ec
  | .instrStart => instrStart
  | .specRsp => specRsp
  | .commitRsp => commitRsp

/-- Executing an instruction is running its rule to the response. -/
theorem exec_eq_runCommand (i : Instr) (s : State) : exec i s = runCommand (body i) s := by cases i <;> rfl

/-- Everything the rule of a command can do. -/
theorem FieldWrites.body (h : FieldWrites R E) (i : Instr) : Spec R E (body i) := by
  cases i with
  | wrcr0 v => exact h.wrcr0 v
  | wrcr2 v => exact h.wrcr2 v
  | wrcr3 v => exact h.wrcr3 v
  | wrcr4 v => exact h.wrcr4 v
  | wrcr8 v => exact h.wrcr8 v
  | wrcr1Ud | wrcr5Ud | wrcr6_7Ud _ | wrcr9Ud | wrcr10_11Ud _ | wrcr12_15Ud _ => exact h.undefinedRegister
  | rdcr0 | rdcr2 | rdcr3 | rdcr4 => exact h.rdcr _
  | rdcr8 => exact h.rdcr8
  | rdcr1Ud | rdcr5Ud | rdcr6_7Ud _ | rdcr9Ud | rdcr10_11Ud _ | rdcr12_15Ud _ => exact h.undefinedRegister
  | wrdr0 v | wrdr1 v | wrdr2 v | wrdr3 v => exact h.wrdrAddr _ v
  | wrdr4 v => exact h.wrdr4 v
  | wrdr5 v => exact h.wrdr5 v
  | wrdr6 v => exact h.wrdrStatus v
  | wrdr7 v => exact h.wrdrControl v
  | rddr0 | rddr1 | rddr2 | rddr3 | rddr6 | rddr7 => exact h.rddr _
  | rddr4 | rddr5 => exact h.rddrAlias _
  | wrdr8_15Ud _ | rddr8_15Ud _ => exact h.undefinedRegister
  | wrefer v => exact h.wrefer v
  | rdefer => exact h.rdefer
  | wrxcr i v => exact h.wrxcr i v
  | rdxcr i => exact h.rdxcr i
  | wrxss v => exact h.wrxss v
  | rdxss => exact h.rdxss
  | chkio width out rep port => exact h.chkio width out rep port
  | boundary => exact h.boundary
  | inhibit m => exact h.inhibit m
  | signal e level => exact h.signal e level
  | evmask e mask => exact h.evmask e mask
  | dbgtrap b => exact h.dbgtrap b
  | activity a => exact h.activity a
  | raise v ec addr => exact h.raiseCommand v ec addr
  | int v type pushError ec => exact h.intCommand v type pushError ec
  | instrStart => exact h.instrStart
  | specRsp => exact h.specRsp
  | commitRsp => exact h.commitRsp

/-! ### A step (R8) -/

theorem perform_of_decode {c : Command} {i : Instr} (h : decode c = .ok i) (s : State) : perform c s = exec i s := by
  simp [perform, h]

theorem perform_of_undecodable {c : Command} {e : DecodeError} (h : decode c = .error e) (s : State) :
    perform c s = runCommand (abort .badCommand) s := by
  simp [perform, h, undecoded]

theorem step_command {s : State} {c : Command} {rest : List Request} (h : s.queue = .command c :: rest) :
    step s = perform c (s.setQueue rest) := by simp [step, h]

theorem step_host {s : State} {a : HostAction} {rest : List Request} (h : s.queue = .host a :: rest) :
    step s = .next (hostStep a (s.setQueue rest)) := by simp [step, h]

theorem step_idle {s : State} (h : s.queue = []) : step s = .next s := by simp [step, h]

/-- Settles O4: one case for each form of the queue, and ABORT(bad_command) as the outcome of an undecodable word. -/
theorem stepPerformsTheOldestRequest : Obligations.StepPerformsTheOldestRequest := by
  refine ⟨fun s c rest i hq hd => ?_, fun s c rest e hq hd live => ?_, fun s a rest hq => step_host hq,
    fun s hq => step_idle hq⟩
  · rw [step_command hq, perform_of_decode hd]
  · rw [step_command hq, perform_of_undecodable hd]
    exact runCommand_eq_doneIn_of_done live (run_abort _ _)

end Sys2Proof.Machine
end

section
/-! SUPPORT. Every chain of exceptions ends within the bound of the model (R262, R271, log entry 20). A delivery leaves
`last_exception_type` as the exception that is delivered set it, and what it raises is contributory or a page fault, so each
further entry into `exception` either raises the class or escalates to the double fault, after which the next entry is the
triple fault. `entriesFrom` counts the entries that are left. -/

namespace Sys2Proof.Machine

variable {R : State → State → Prop} {E : State → State → Stop → Prop} {α β : Type}

/-- A bind whose first part is known by its `Spec` alone. -/
theorem Spec.bind_elim {m : M α} (hm : Spec R E m) {f : α → M β} {s : State} {Q : EStateM.Result Stop State β → Prop}
    (ok : ∀ a s', R s s' → Q (f a s')) (error : ∀ x s', E s s' x → Q (.error x s')) : Q ((m >>= f) s) := by
  rw [run_bind]
  cases e : m s with
  | ok a s' => exact ok a s' (hm.ok e)
  | error x s' => exact error x s' (hm.error e)

/-! ### The exits of a command's own rule -/

/-- The configuration is the same (R5). -/
def sameCfg (s s' : State) : Prop := s'.cfg = s.cfg

/-- A rule leaves by an exception or an outcome; by a refusal only where the configuration is outside the spec (R5, R344,
R371), and never by the bound of the model. -/
def ruleExit (s s' : State) : Stop → Prop
  | .raise _ _ => s'.cfg = s.cfg
  | .done _ => True
  | .refuse _ => s.cfg.cetSupported = true
  | .depth => False

theorem sameCfg_fieldWrites : FieldWrites sameCfg ruleExit where
  refl _ := rfl
  trans h1 h2 := h2.trans h1
  pre {a b c x} h1 h2 := by
    cases x with
    | raise v ec => exact Eq.trans h2 h1
    | done k => trivial
    | refuse r => exact (congrArg Config.cetSupported (Eq.symm h1)).trans h2
    | depth => exact h2
  hist _ _ := rfl
  port _ _ := rfl
  mem _ _ := rfl
  regs _ _ := rfl
  ctx _ _ := rfl
  sched _ _ := rfl
  exc _ _ := rfl
  tpr _ _ := rfl
  vtpr _ _ := rfl
  aborted _ := rfl
  reset _ := rfl
  raised _ _ _ := rfl
  done _ _ := trivial
  refuse _ h := h

/-! ### The exits of a delivery -/

/-- The configuration and the class of the exception in progress are the same (R5, R56). -/
def sameClass (s s' : State) : Prop := s'.cfg = s.cfg ∧ s'.exc.lastType = s.exc.lastType

/-- As `ruleExit`, with what a fault of a delivery can be. -/
def deliveryExit (s s' : State) : Stop → Prop
  | .raise v _ => deliveryVector v ∧ sameClass s s'
  | .done _ => True
  | .refuse _ => s.cfg.cetSupported = true
  | .depth => False

theorem sameClass.refl (s : State) : sameClass s s := ⟨rfl, rfl⟩

theorem sameClass.trans {a b c : State} (h1 : sameClass a b) (h2 : sameClass b c) : sameClass a c :=
  ⟨h2.1.trans h1.1, h2.2.trans h1.2⟩

theorem sameClass_deliverySteps : DeliverySteps sameClass deliveryExit where
  refl := sameClass.refl
  trans := sameClass.trans
  pre {a b c x} h1 h2 := by
    cases x with
    | raise v ec => exact ⟨h2.1, h1.trans h2.2⟩
    | done k => trivial
    | refuse r => exact (congrArg Config.cetSupported h1.1.symm).trans h2
    | depth => exact h2
  hist _ _ := ⟨rfl, rfl⟩
  port _ := ⟨rfl, rfl⟩
  mem _ _ _ _ := ⟨rfl, rfl⟩
  cr2 _ _ := ⟨rfl, rfl⟩
  ctx _ _ _ := ⟨rfl, rfl⟩
  sched _ := ⟨rfl, rfl⟩
  exc _ _ he := ⟨rfl, he⟩
  raise s _ _ hv := ⟨hv, sameClass.refl s⟩
  abort _ _ := trivial
  taskSw _ _ _ _ _ _ := trivial
  refuse _ h := h

/-! ### The stages before a delivery (R262) -/

/-- The only exits of the stages are outcomes. -/
def onlyDone (_ _ : State) (x : Stop) : Prop := ∃ a, x = .done a

theorem sameClass_chain : Chain sameClass onlyDone where
  refl := sameClass.refl
  trans := sameClass.trans
  pre _ h := h

theorem abortIf_sameClass (c : Bool) (r : AbortReason) : Spec sameClass onlyDone (abortIf c r) :=
  Spec.abortIf sameClass_chain fun _ _ => ⟨_, rfl⟩

theorem askExc_sameClass (v : Vector8) (ec : Half) (p : Bool) (type : BitVec 3) :
    Spec sameClass onlyDone (askExc v ec p type) := by
  refine Spec.bind sameClass_chain (Spec.get sameClass_chain) fun s => ?_
  cases plainAnswer s (.exc v ec p type s.exc.extBit s.exc.inEvent) with
  | none => exact Spec.pure sameClass_chain _
  | some i => exact fun _ => ⟨_, rfl⟩

theorem rollbackIfFault_sameClass (k : FaultKind) (v : Vector8) : Spec sameClass onlyDone (rollbackIfFault k v) :=
  Spec.ite (fun _ => Spec.modify fun _ => ⟨rfl, rfl⟩) fun _ => Spec.pure sameClass_chain _

theorem commitIfDb_sameClass (v : Vector8) : Spec sameClass onlyDone (commitIfDb v) :=
  Spec.ite (fun _ => Spec.modify fun _ => ⟨rfl, rfl⟩) fun _ => Spec.pure sameClass_chain _

/-- A double fault in progress ends in the triple fault (R274); otherwise nothing happens. -/
theorem tripleIfDouble_cases (s : State) :
    (∃ a s', tripleIfDouble s = .error (.done a) s')
      ∨ (s.exc.lastType ≠ .doubleFault ∧ tripleIfDouble s = .ok () s) := by
  by_cases hd : s.exc.lastType = .doubleFault
  · left
    unfold tripleIfDouble
    rw [run_bind_ok (run_get s), if_pos (by simpa using hd), run_tripleFault]
    split
    · exact ⟨_, _, rfl⟩
    · exact ⟨_, _, rfl⟩
  · exact .inr ⟨hd, run_tripleIfDouble hd⟩

/-- How the stages of `v` in `s` end: with an outcome, or, no double fault being in progress, with the decision of R271. -/
def StageEnds (v : Vector8) (s : State) : EStateM.Result Stop State ExcStage → Prop
  | .error x _ => ∃ a, x = .done a
  | .ok .escalate s' =>
    sameClass s s' ∧ s.exc.lastType ≠ .doubleFault ∧ nextClass s.exc.lastType (excInfo v).etype = none
  | .ok (.deliver _ _) s' =>
    s'.cfg = s.cfg ∧ s.exc.lastType ≠ .doubleFault
      ∧ nextClass s.exc.lastType (excInfo v).etype = some s'.exc.lastType

theorem classify_stageEnds {s s' : State} (hs : sameClass s s') (hd : s.exc.lastType ≠ .doubleFault) (v : Vector8)
    (p : Bool) (ec : Half) : StageEnds v s (classify (excInfo v).etype p ec s') := by
  unfold classify
  rw [run_bind_ok (run_get s'), hs.2]
  cases hc : nextClass s.exc.lastType (excInfo v).etype with
  | none => exact ⟨hs, hd, hc⟩
  | some c =>
    simp only
    rw [run_bind_ok (run_modifyExc _ _), run_pure]
    split
    · exact ⟨hs.1, hd, hc⟩
    · exact ⟨hs.1, hd, hc⟩

theorem exceptionStage_ends (v : Vector8) (ec : Half) (s : State) : StageEnds v s (exceptionStage v ec s) := by
  unfold exceptionStage
  refine (abortIf_sameClass _ _).bind_elim (fun _ s1 h1 => ?_) fun x _ hx => hx
  rw [run_bind_ok (run_get s1)]
  refine (askExc_sameClass _ _ _ _).bind_elim (fun _ s2 h2 => ?_) fun x _ hx => hx
  refine (rollbackIfFault_sameClass _ _).bind_elim (fun _ s3 h3 => ?_) fun x _ hx => hx
  have h03 : sameClass s s3 := (h1.trans h2).trans h3
  obtain ⟨a, s', ht⟩ | ⟨hd, ht⟩ := tripleIfDouble_cases s3
  · rw [run_bind, ht]
    exact ⟨a, rfl⟩
  · rw [run_bind_ok ht]
    refine (commitIfDb_sameClass v).bind_elim (fun _ s4 h4 => ?_) fun x _ hx => hx
    rw [run_bind_ok (run_modifyExc _ _)]
    refine classify_stageEnds ?_ (h03.2 ▸ hd) v _ _
    exact (h03.trans h4).trans ⟨rfl, rfl⟩

/-! ### The length of a chain -/

/-- How many more exceptions can be entered once one of this class is delivered, each a fault of the delivery before it:
from a benign one a contributory one, a page fault, the pair that escalates, the double fault and the triple fault. -/
def entriesAfter : ExcClass → Nat
  | .benign => 5
  | .contributory => 4
  | .pageFault => 3
  | .doubleFault => 1

/-- How many times `exception` is entered at most for an exception of class `t` while one of class `last` is in progress,
itself included. An incompatible pair is entered again as the double fault (R271). -/
def entriesFrom (last t : ExcClass) : Nat :=
  if last = .doubleFault then 1
  else match nextClass last t with
    | none => 3
    | some c => 1 + entriesAfter c

theorem entriesFrom_pos (last t : ExcClass) : 0 < entriesFrom last t := by
  cases last <;> cases t <;> decide

theorem entriesFrom_le (last t : ExcClass) : entriesFrom last t ≤ maxExceptions := by
  cases last <;> cases t <;> decide

/-- The double fault and the triple fault after it. -/
theorem entriesFrom_doubleFault_le (last : ExcClass) : entriesFrom last .doubleFault ≤ 2 := by
  cases last <;> decide

/-- A fault of a delivery is contributory or a page fault, so that the class never falls. -/
theorem entriesFrom_fault_le (last : ExcClass) {v : Vector8} (hv : deliveryVector v) :
    entriesFrom last (excInfo v).etype ≤ entriesAfter last := by
  obtain rfl | rfl | rfl | rfl | rfl := hv <;> cases last <;> decide

/-! ### Taking an exception gives an answer -/

/-- The result of a command is one the port can show: an answer, given normally or as an outcome. -/
def Answered : EStateM.Result Stop State Answer → Prop
  | .ok _ _ => True
  | .error x _ => ∃ a, x = .done a

theorem Answered.outcomeOf : ∀ {r : EStateM.Result Stop State Answer}, Answered r → ∃ t, outcomeOf r = .next t
  | .ok _ _, _ => ⟨_, rfl⟩
  | .error _ _, ⟨_, rfl⟩ => ⟨_, rfl⟩

/-- What is left of an exception that comes to its delivery, where a fault of the delivery is answered. -/
theorem onRaise_deliver_answered {s : State} (hcet : s.cfg.cetSupported = false) {v : Vector8} {p : Bool} {ec : Half}
    {handler : Vector8 → Half → M Answer}
    (fault : ∀ w ec' s', deliveryVector w → sameClass s s' → Answered (handler w ec' s')) :
    Answered (onRaise (deliver v 3#3 p ec) (fun _ => resolved v) handler s) := by
  have hspec := sameClass_deliverySteps.deliver v 3#3 p ec
  cases e : deliver v 3#3 p ec s with
  | ok a s' =>
    rw [run_onRaise_ok e]
    trivial
  | error x s' =>
    have hx := hspec.error e
    cases x with
    | raise w ec' =>
      rw [run_onRaise_raise e]
      exact fault w ec' s' hx.1 hx.2
    | done a =>
      rw [run_onRaise_done e]
      exact ⟨a, rfl⟩
    | refuse r => exact absurd (hcet.symm.trans hx) Bool.false_ne_true
    | depth => exact hx.elim

/-- Whatever is raised, in whatever state, taking it ends in an answer once the bound is not below the length of the
chain. -/
theorem exception_answered (k : Nat) (v : Vector8) (ec : Half) (s : State) (hcet : s.cfg.cetSupported = false)
    (hk : entriesFrom s.exc.lastType (excInfo v).etype ≤ k) : Answered (exception k v ec s) := by
  induction k generalizing v ec s with
  | zero => exact absurd hk (Nat.not_le.mpr (entriesFrom_pos _ _))
  | succ k ih =>
    unfold exception
    have hstage := exceptionStage_ends v ec s
    rw [run_bind]
    cases e : exceptionStage v ec s with
    | error x s' =>
      rw [e] at hstage
      exact hstage
    | ok st s' =>
      rw [e] at hstage
      cases st with
      | escalate =>
        obtain ⟨hs, hd, hc⟩ := hstage
        have hlen : entriesFrom s.exc.lastType (excInfo v).etype = 3 := by simp [entriesFrom, hd, hc]
        have h8 : entriesFrom s'.exc.lastType (excInfo 8#8).etype ≤ 2 := entriesFrom_doubleFault_le _
        exact ih 8#8 0#16 s' (hs.1 ▸ hcet) (by omega)
      | deliver p ec' =>
        obtain ⟨hcfg, hd, hc⟩ := hstage
        have hlen : entriesFrom s.exc.lastType (excInfo v).etype = 1 + entriesAfter s'.exc.lastType := by
          simp [entriesFrom, hd, hc]
        refine onRaise_deliver_answered (hcfg ▸ hcet) fun w ec'' s'' hw hs => ?_
        have hfault := entriesFrom_fault_le s'.exc.lastType hw
        exact ih w ec'' s'' (by rw [hs.1, hcfg]; exact hcet) (by rw [hs.2]; omega)

/-! ### Every command answers -/

/-- A rule that leaves as `ruleExit` allows is answered, whatever it raises. -/
theorem runCommand_answers {m : M Answer} (hm : Spec sameCfg ruleExit m) {s : State}
    (hcet : s.cfg.cetSupported = false) : ∃ t, runCommand m s = .next t := by
  cases ha : s.aborted with
  | true => exact ⟨_, runCommand_aborted ha⟩
  | false =>
    cases e : m s with
    | ok a s' => exact ⟨_, runCommand_ok ha e⟩
    | error x s' =>
      have hx := hm.error e
      cases x with
      | raise v ec =>
        rw [runCommand_raise ha e]
        exact (exception_answered _ v ec s' (hx ▸ hcet) (entriesFrom_le _ _)).outcomeOf
      | done a => exact ⟨_, runCommand_done ha e⟩
      | refuse r => exact absurd (hcet.symm.trans hx) Bool.false_ne_true
      | depth => exact hx.elim

theorem exec_answers (i : Instr) {s : State} (hcet : s.cfg.cetSupported = false) : ∃ t, exec i s = .next t := by
  rw [exec_eq_runCommand]
  exact runCommand_answers (sameCfg_fieldWrites.body i) hcet

theorem perform_answers (c : Command) {s : State} (hcet : s.cfg.cetSupported = false) :
    ∃ t, perform c s = .next t := by
  cases hd : decode c with
  | ok i =>
    rw [perform_of_decode hd]
    exact exec_answers i hcet
  | error e =>
    rw [perform_of_undecodable hd]
    exact runCommand_answers (sameCfg_fieldWrites.abort _) hcet

/-- Settles O10: the rule of every command leaves by an answer or an exception, and the chain of exceptions that follows is
never longer than `maxExceptions`. -/
theorem stepAlwaysAnswers : Obligations.StepAlwaysAnswers := by
  intro s hcet
  cases hq : s.queue with
  | nil => exact ⟨_, step_idle hq⟩
  | cons r rest =>
    cases r with
    | command c =>
      rw [step_command hq]
      exact perform_answers c hcet
    | host a => exact ⟨_, step_host hq⟩

end Sys2Proof.Machine
end

section
/-! SUPPORT. The facts about the operating mode and about the values of reset that the statements of the family
spec/10_state.md rest on: one equation per mode (R30), and the invariant of every part that a reset writes (R411, R413). -/

namespace Sys2Proof.Machine

/-! ### The operating mode (R30) -/

theorem mode_of_lma_of_l {s : State} (hlma : s.regs.lma = true) (hl : s.ctx.cs.cache.l = true) : s.mode = .long64 := by
  simp [State.mode, modeOf, hlma, hl]

theorem mode_of_lma_of_not_l {s : State} (hlma : s.regs.lma = true) (hl : s.ctx.cs.cache.l = false) :
    s.mode = .compat := by
  simp [State.mode, modeOf, hlma, hl]

theorem mode_of_not_pe {s : State} (hlma : s.regs.lma = false) (hpe : s.regs.pe = false) : s.mode = .real := by
  simp [State.mode, modeOf, hlma, hpe]

theorem mode_of_vm {s : State} (hlma : s.regs.lma = false) (hpe : s.regs.pe = true) (hvm : s.ctx.vm = true) :
    s.mode = .v86 := by
  simp [State.mode, modeOf, hlma, hpe, hvm]

theorem mode_of_not_vm {s : State} (hlma : s.regs.lma = false) (hpe : s.regs.pe = true) (hvm : s.ctx.vm = false) :
    s.mode = .prot := by
  simp [State.mode, modeOf, hlma, hpe, hvm]

/-- Settles O6: one case for each row of R30. -/
theorem operatingMode : Obligations.OperatingMode := fun _ =>
  ⟨mode_of_lma_of_l, mode_of_lma_of_not_l, mode_of_not_pe, mode_of_vm, mode_of_not_vm⟩

/-! ### What a reset writes meets the invariant, whatever the configuration (R411, R413) -/

/-- The x87 bit, the one bit of XCR0 at reset, is in every allow-mask (R166). -/
theorem one_and_not_xcr0Allow (c : Config) : 1#64 &&& ~~~(xcr0Allow c) = 0#64 := by
  unfold xcr0Allow
  have hself : 1#64 &&& ~~~1#64 = 0#64 := by decide
  simp only [BitVec.not_or, ← BitVec.and_assoc, hself, BitVec.zero_and]

theorem regsOk_reset (c : Config) : RegsOk c ControlRegs.reset where
  cr0Upper := by decide
  cr0Et := by decide
  cr0Reserved _ := by decide
  pgNeedsPe _ h := absurd h (by decide)
  nwNeedsCd _ := by decide
  lmaNeeds h := absurd h (by decide)
  pcideNeedsLma h := absurd h (by decide)
  cr4Allowed := BitVec.zero_and
  eferAllowed := BitVec.zero_and
  xcr0Legal := by simp [legalXcr0, ControlRegs.reset, one_and_not_xcr0Allow c]
  xssAllowed := BitVec.zero_and
  dr6Ones := by decide
  dr6Upper := by decide
  dr6Bit12 _ := by decide
  dr7Bit10 := by decide
  dr7Upper := by decide
  dr7Zero _ := by decide

theorem schedOk_reset : SchedOk Sched.reset := ⟨by decide, by decide⟩

theorem inputsOk_resetInputs (c : Config) (i : Inputs) : InputsOk c (resetInputs i) := ⟨fun _ => rfl, rfl⟩

/-- Settles O8: the parts that `ResetState` writes are the same at power-on, and both memories are empty. -/
theorem resetKeepsInvariant : Obligations.ResetKeepsInvariant where
  regs := regsOk_reset _
  sched := schedOk_reset
  inputs := inputsOk_resetInputs Config.p0 Inputs.reset
  mem := Memory.wf_nil
  phys := Memory.wf_nil

end Sys2Proof.Machine
end

section
/-! SUPPORT. What a command can do from its start to its response, with the condition under which each write is made:
`RuleSteps i R E` lists the writes and exits of the rule of `i` and of the exceptions it raises, and `RuleSteps.command` says
that the rule of `i`, run as `runCommand` runs it, satisfies every `Spec R E` that admits them. Where `FieldWrites` and
`ExceptionSteps` let any value and any event be written, `RuleSteps` says which: a register takes a value that its validator
passed (`RegWrite`), the scheduler keeps its zero bits (`SchedOk`), and a flush request is logged by three commands alone. -/

namespace Sys2Proof.Machine

variable {R : State → State → Prop} {E : State → State → Stop → Prop} {α β : Type} {i : Instr}

/-! ### The guards -/

def Event.isFlush : Event → Bool
  | .tlbFlush _ => true
  | _ => false

/-- The commands that may request a flush (R88). -/
def flushes : Instr → Bool
  | .wrcr0 _ | .wrcr3 _ | .wrcr4 _ => true
  | _ => false

/-- The values that the rule of `i`, or an exception it raises, can leave in the control registers, given the state it
finds when it writes them. -/
inductive RegWrite (i : Instr) (s : State) : ControlRegs → Prop
  | cr2 (a : Word) : RegWrite i s { s.regs with cr2 := a }
  | debug : RegWrite i s (commitDebug s.sched.debugTrap s.regs)
  | cr0 (v : Word) (hi : i = .wrcr0 v) (legal : legalCr0 s v = true) (entry : LongEntryOk s v) (exit : LongExitOk s v) :
    RegWrite i s { s.regs with cr0 := norm0 s.cfg.cpuLevel v, efer := cr0Efer s v }
  | cr3 (v : Word) (hi : systemWrite i = true) : RegWrite i s { s.regs with cr3 := v }
  | cr4 (v : Word) (hi : i = .wrcr4 v) (legal : legalCr4 s v = true) : RegWrite i s { s.regs with cr4 := v }
  | efer (v : Word) (hi : i = .wrefer v) (allowed : v &&& ~~~(eferAllow s.cfg) = 0#64)
    (lme : s.regs.pg = true → v.getLsbD 8 = s.regs.lme) :
    RegWrite i s { s.regs with efer := eferWrite s.cfg s.regs.efer v }
  | xcr0 (v : Word) (hi : systemWrite i = true) (legal : legalXcr0 s.cfg v = true) :
    RegWrite i s { s.regs with xcr0 := v }
  | xss (v : Word) (hi : systemWrite i = true) (allowed : v &&& ~~~(xssAllow s.cfg) = 0#64) :
    RegWrite i s { s.regs with xss := v }
  | address (n : DrNum) (v : Word) (hi : systemWrite i = true) (h6 : n ≠ .dr6) (h7 : n ≠ .dr7) :
    RegWrite i s (putDr n v s.regs)
  | status (v : Word) (hi : systemWrite i = true) :
    RegWrite i s (putDr .dr6 (dr6Write s.cfg.cpuLevel s.regs.dr6 v) s.regs)
  | control (v : Word) (hi : systemWrite i = true) : RegWrite i s (putDr .dr7 (dr7Write s.cfg.cpuLevel v) s.regs)

/-- The writes and exits of the command `i`. -/
structure RuleSteps (i : Instr) (R : State → State → Prop) (E : State → State → Stop → Prop) : Prop
    extends Chain R E where
  log : ∀ s e, e.isFlush = false → R s (s.setHist (s.hist ++ [e]))
  flush : flushes i = true → ∀ s f, R s (s.setHist (s.hist ++ [.tlbFlush f]))
  port : ∀ s p, R s (s.setPort p)
  store : ∀ s a n v, R s (s.setMem (s.mem.writeLE a n v))
  regs : ∀ s r, RegWrite i s r → R s (s.setRegs r)
  ctx : ∀ s c, R s (s.setCtx c)
  sched : ∀ s d, (SchedOk s.sched → SchedOk d) → R s (s.setSched d)
  exc : ∀ s e, R s (s.setExc e)
  tpr : systemWrite i = true → ∀ s t, R s (s.setTpr t)
  vtpr : systemWrite i = true → ∀ s t, R s (s.setVTpr t)
  raised : ∀ s v ec, E s s (.raise v ec)
  caught : ∀ s s' v ec, E s s' (.raise v ec) → R s s'
  done : ∀ s a, a ≠ .abort → a ≠ .shutdown → E s s (.done a)
  abort : ∀ s r, E s (s.abortedBy r) (.done .abort)
  shutDown : ∀ s, E s s.shutDown (.done .shutdown)
  reset : ∀ s k, E s ((resetState s).setHist (s.hist ++ [.reset k])) (.done .reset)
  refuse : ∀ s r, E s s (.refuse r)
  depth : ∀ s, E s s .depth

/-! ### Running a rule from a given state -/

/-- `Spec R E m` at the one state `s`. -/
def SpecAt (R : State → State → Prop) (E : State → State → Stop → Prop) (m : M α) (s : State) : Prop :=
  match m s with
  | .ok _ s' => R s s'
  | .error e s' => E s s' e

/-- The command ends normally only in the state it began in. -/
def unchanged (s s' : State) : Prop := s' = s

/-- The command ends normally only with more entries in the history. -/
def onlyLogs (s s' : State) : Prop := ∃ new, s' = s.logged new

/-- No condition on how the command leaves its rule. -/
def anyExit (_ _ : State) (_ : Stop) : Prop := True

theorem unchanged_chain : Chain unchanged anyExit where
  refl _ := rfl
  trans h1 h2 := Eq.trans h2 h1
  pre _ _ := trivial

theorem onlyLogs_chain : Chain onlyLogs anyExit where
  refl s := ⟨[], by simp [State.logged, State.setHist]⟩
  trans := by
    rintro a _ _ ⟨n1, rfl⟩ ⟨n2, rfl⟩
    exact ⟨n1 ++ n2, by simp [State.logged]⟩
  pre _ _ := trivial

theorem Spec.at {m : M α} (hm : Spec R E m) (s : State) : SpecAt R E m s := hm s

/-- A bind whose first part satisfies a second `Spec`, which the rest may use. -/
theorem SpecAt.bind (h : Chain R E) {Q : State → State → Prop} {m : M α} {f : α → M β} {s : State}
    (hm : SpecAt R E m s) (hq : Spec Q anyExit m) (hf : ∀ a s', Q s s' → SpecAt R E (f a) s') :
    SpecAt R E (m >>= f) s := by
  unfold SpecAt at hm ⊢
  rw [run_bind]
  cases e : m s with
  | error x s' => rw [e] at hm; exact hm
  | ok a s' =>
    rw [e] at hm
    have h2 : SpecAt R E (f a) s' := hf a s' (hq.ok e)
    unfold SpecAt at h2
    simp only
    cases e2 : f a s' with
    | ok b s'' => rw [e2] at h2; exact h.trans hm h2
    | error x s'' => rw [e2] at h2; exact h.pre hm h2

theorem SpecAt.bind_unchanged (h : Chain R E) {m : M α} {f : α → M β} {s : State} (hm : Spec R E m)
    (hq : Spec unchanged anyExit m) (hf : ∀ a, SpecAt R E (f a) s) : SpecAt R E (m >>= f) s :=
  SpecAt.bind h (hm.at s) hq fun a s' hs => by
    rw [show s' = s from hs]
    exact hf a

theorem SpecAt.get_bind {f : State → M β} {s : State} (hf : SpecAt R E (f s) s) : SpecAt R E (get >>= f) s := hf

/-- A test that ends normally was not met. -/
theorem SpecAt.raiseIf_bind {c : Bool} {v : Vector8} {ec : Half} {f : Unit → M β} {s : State}
    (hr : E s s (.raise v ec)) (hf : c = false → SpecAt R E (f ()) s) : SpecAt R E (raiseIf c v ec >>= f) s := by
  cases c with
  | false => exact hf rfl
  | true => exact hr

/-- A command that comes to running `m` after the state went from `s` to `s1`. -/
theorem SpecAt.after (h : Chain R E) {n m : M β} {s s1 : State} (hr : R s s1) (hm : Spec R E m) (e : n s = m s1) :
    SpecAt R E n s := by
  unfold SpecAt
  rw [e]
  have h2 := hm s1
  cases e2 : m s1 with
  | ok a s' => rw [e2] at h2; exact h.trans hr h2
  | error x s' => rw [e2] at h2; exact h.pre hr h2

/-- A write, and a rest that does not depend on the state. -/
theorem SpecAt.modify_bind (h : Chain R E) {g : State → State} {m : M β} {s : State} (hg : R s (g s))
    (hm : Spec R E m) : SpecAt R E (modify g >>= fun _ => m) s :=
  SpecAt.after h hg hm (run_bind_ok (run_modify g s))

theorem unchanged_raiseIf (c : Bool) (v : Vector8) (ec : Half) : Spec unchanged anyExit (raiseIf c v ec) :=
  Spec.raiseIf unchanged_chain fun _ _ => trivial

theorem unchanged_requireCpl0 : Spec unchanged anyExit requireCpl0 :=
  Spec.bind unchanged_chain (Spec.get unchanged_chain) fun _ => unchanged_raiseIf _ _ _

theorem unchanged_obeyWrite (a : RegAnswer) : Spec unchanged anyExit (obeyWrite a) := by
  cases a with
  | pass => exact Spec.pure unchanged_chain _
  | exit e => exact fun _ => trivial
  | handled x b => exact fun _ => trivial

theorem onlyLogs_emit (e : Event) : Spec onlyLogs anyExit (emit e) := Spec.modify fun _ => ⟨[e], rfl⟩

theorem onlyLogs_physRead (a : Word) : Spec onlyLogs anyExit (physRead a) :=
  Spec.bind onlyLogs_chain (onlyLogs_emit _) fun _ => Spec.bind onlyLogs_chain (Spec.get onlyLogs_chain) fun _ =>
    Spec.pure onlyLogs_chain _

theorem onlyLogs_readPdptes (base : Word) (left k : Nat) : Spec onlyLogs anyExit (readPdptes base left k) := by
  induction left generalizing k with
  | zero => exact Spec.pure onlyLogs_chain _
  | succ left ih =>
    exact Spec.bind onlyLogs_chain (onlyLogs_physRead _) fun _ =>
      Spec.bind onlyLogs_chain (Spec.get onlyLogs_chain) fun _ =>
      Spec.ite (fun _ => Spec.pure onlyLogs_chain _) fun _ =>
      Spec.bind onlyLogs_chain (ih _) fun _ => Spec.pure onlyLogs_chain _

theorem onlyLogs_loadPdptes (es : Option (List Word)) : Spec onlyLogs anyExit (loadPdptes es) := by
  unfold loadPdptes
  split
  · exact onlyLogs_emit _
  · exact fun _ => trivial

theorem onlyLogs_pdptesIf (b : Bool) (c : Word) : Spec onlyLogs anyExit (pdptesIf b c) :=
  Spec.ite (fun _ => Spec.bind onlyLogs_chain (onlyLogs_readPdptes _ _ _) fun _ => onlyLogs_loadPdptes _) fun _ =>
    Spec.pure onlyLogs_chain _

/-! ### What keeps the zero bits of the scheduler (R50, R51) -/

theorem SchedOk.clearPending {d : Sched} (h : SchedOk d) (b m : BitVec 16) :
    SchedOk { d with pending := d.pending &&& b, mask := m } where
  debugTrap := h.debugTrap
  event3 := by simp only [BitVec.getLsbD_and, h.event3, Bool.false_and]

theorem SchedOk.setPending {d : Sched} (h : SchedOk d) {b : BitVec 16} (hb : b.getLsbD 3 = false) :
    SchedOk { d with pending := d.pending ||| b } where
  debugTrap := h.debugTrap
  event3 := by simp only [BitVec.getLsbD_or, h.event3, hb, Bool.or_false]

theorem SchedOk.addTraps {d : Sched} (h : SchedOk d) {b : BitVec 16} (hb : b &&& 0x1FF0#16 = 0#16) :
    SchedOk { d with debugTrap := d.debugTrap ||| b } where
  debugTrap := by rw [BitVec.and_or_distrib_right]; simp [h.debugTrap, hb]
  event3 := h.event3

theorem SchedOk.clearTraps {d : Sched} (h : SchedOk d) (m : BitVec 2) :
    SchedOk { d with debugTrap := 0#16, inhibit := m } where
  debugTrap := BitVec.zero_and
  event3 := h.event3

/-- `SIGNAL` of an event that exists leaves event 3 at 0 (R245). -/
theorem SchedOk.putPending {d : Sched} (h : SchedOk d) {e : BitVec 4} (he : e ≠ 3#4) (level : Bool) :
    SchedOk { d with pending := putBit d.pending e level } := by
  cases level with
  | false => exact h.clearPending _ _
  | true =>
    refine h.setPending ?_
    have others : ∀ e : BitVec 4, e ≠ 3#4 → (1#16 <<< e.toNat).getLsbD 3 = false := by decide
    exact others e he

/-- Breakpoint matches are in bits 0 to 3 (R200). -/
theorem ioBpMatch_and (r : ControlRegs) (port : Half) (width : BitVec 8) :
    ioBpMatch r port width &&& 0x1FF0#16 = 0#16 := by
  have low : ∀ b3 b2 b1 b0 : Bool, (0#12 ++ BitVec.ofBool b3 ++ BitVec.ofBool b2 ++ BitVec.ofBool b1
      ++ BitVec.ofBool b0 : BitVec 16) &&& 0x1FF0#16 = 0#16 := by decide
  unfold ioBpMatch
  split
  · exact low _ _ _ _
  · decide

namespace RuleSteps

variable (h : RuleSteps i R E)
include h

/-! ### The constructs of a rule (R7) -/

theorem skip (a : α) : Spec R E (pure a : M α) := Spec.pure h.toChain a

theorem andThen {m : M α} {f : α → M β} (hm : Spec R E m) (hf : ∀ a, Spec R E (f a)) : Spec R E (m >>= f) :=
  Spec.bind h.toChain hm hf

theorem reading {f : State → M β} (hf : ∀ s, Spec R E (f s)) : Spec R E (get >>= f) :=
  Spec.bind h.toChain (Spec.get h.toChain) hf

/-- A write, and the rest of the rule. -/
theorem writing {f : State → State} {m : M β} (hf : ∀ s, R s (f s)) (hm : Spec R E m) :
    Spec R E (modify f >>= fun _ => m) :=
  Spec.bind h.toChain (Spec.modify hf) fun _ => hm

theorem when {c : Prop} [Decidable c] {m : M Unit} (hm : Spec R E m) : Spec R E (if c then m else pure ()) :=
  Spec.ite (fun _ => hm) fun _ => h.skip ()

theorem raise (v : Vector8) (ec : Half) : Spec R E (raise v ec : M α) := fun s => h.raised s v ec

theorem raiseIf (c : Bool) (v : Vector8) (ec : Half) : Spec R E (raiseIf c v ec) := h.when (h.raise v ec)

theorem finish (a : Answer) (ha : a ≠ .abort := by nofun) (hs : a ≠ .shutdown := by nofun) :
    Spec R E (finish a : M α) := fun s => h.done s a ha hs

theorem abortNow (r : AbortReason) : Spec R E (Machine.abort r : M α) := fun s => h.abort s r

theorem abortIf (c : Bool) (r : AbortReason) : Spec R E (abortIf c r) := h.when (h.abortNow r)

/-- A rule that goes on past a test whose failure is a bad command. -/
theorem unlessBad {c : Bool} {r : AbortReason} {f : Unit → M β} (hf : c = false → Spec R E (f ())) :
    Spec R E (Machine.abortIf c r >>= f) := by
  cases c with
  | false => exact hf rfl
  | true => exact fun s => h.abort s r

theorem emit (e : Event) (he : e.isFlush = false := by rfl) : Spec R E (emit e) := Spec.modify fun s => h.log s e he

theorem emitMode : Spec R E emitMode := h.reading fun _ => h.emit _

theorem emitFlushIf (hi : flushes i = true) (c : Bool) (f : FlushScope) : Spec R E (emitIf c (.tlbFlush f)) :=
  h.when (Spec.modify fun s => h.flush hi s f)

theorem modifyCtx (f : Context → Context) : Spec R E (modifyCtx f) := Spec.modify fun s => h.ctx s _

theorem modifyExc (f : ExcState → ExcState) : Spec R E (modifyExc f) := Spec.modify fun s => h.exc s _

theorem modifySched {f : Sched → Sched} (hf : ∀ d, SchedOk d → SchedOk (f d)) : Spec R E (modifySched f) :=
  Spec.modify fun s => h.sched s _ (hf s.sched)

/-! ### The memory port (R72 to R74) -/

theorem portAccess (a : Word) : Spec R E (portAccess a) :=
  h.andThen (fun s => h.port s _) fun
    | none => h.skip _
    | some _ => h.writing (fun s => h.regs s _ (.cr2 a)) (h.raise _ _)

theorem memRead (a : Word) (n : Nat) (acc : Acc) : Spec R E (memRead a n acc) :=
  h.andThen (h.emit _) fun _ => h.andThen (h.portAccess a) fun _ => h.reading fun _ => h.skip _

theorem memWrite (a : Word) (n : Nat) (v : Word) (acc : Acc) : Spec R E (memWrite a n v acc) :=
  h.andThen (h.portAccess a) fun _ => h.writing (fun s => h.store s a n v) (h.emit _)

theorem physRead (a : Word) : Spec R E (physRead a) :=
  h.andThen (h.emit _) fun _ => h.reading fun _ => h.skip _

/-! ### The intercept layer and the privilege check (R130, R153, R205 to R212) -/

theorem vmExit (e : ExitInfo) : Spec R E (vmExit e : M α) :=
  h.andThen (h.emit _) fun _ => h.andThen (h.modifyExc _) fun _ => h.finish _

theorem obeyPlain : ∀ a : Option ExitInfo, Spec R E (obeyPlain a)
  | none => h.skip _
  | some e => h.vmExit e

theorem askPlain (q : PlainQuery) : Spec R E (askPlain q) := h.reading fun _ => h.obeyPlain _

theorem askExc (v : Vector8) (ec : Half) (p : Bool) (type : BitVec 3) : Spec R E (askExc v ec p type) :=
  h.reading fun _ => h.obeyPlain _

theorem obeyWrite : ∀ a : RegAnswer, Spec R E (obeyWrite a)
  | .pass => h.skip _
  | .exit e => h.vmExit e
  | .handled _ _ => h.finish _

theorem obeyRead (cur : Word) : ∀ a : RegAnswer, Spec R E (obeyRead a cur)
  | .pass => h.skip _
  | .exit e => h.vmExit e
  | .handled _ _ => h.skip _

theorem requireCpl0 : Spec R E requireCpl0 := h.reading fun _ => h.raiseIf _ _ _

/-! ### Pushing a frame (R295, R332, R366) -/

theorem push (n : Nat) (x : Word) : Spec R E (push n x) :=
  h.reading fun _ => h.andThen (h.raiseIf _ _ _) fun _ => h.andThen (h.memWrite _ _ _ _) fun _ => h.modifyCtx _

theorem pushInner (d : Desc) (e : Half) (n : Nat) (pl : BitVec 2) (xs : List Word) (t : Word) :
    Spec R E (pushInner d e n pl xs t) := by
  induction xs generalizing t with
  | nil => exact h.skip _
  | cons x xs ih => exact h.andThen (h.raiseIf _ _ _) fun _ => h.andThen (h.memWrite _ _ _ _) fun _ => ih _

theorem pushLong (pl : BitVec 2) (xs : List Word) (t : Word) : Spec R E (pushLong pl xs t) := by
  induction xs generalizing t with
  | nil => exact h.skip _
  | cons x xs ih => exact h.andThen (h.raiseIf _ _ _) fun _ => h.andThen (h.memWrite _ _ _ _) fun _ => ih _

/-! ### The three delivery routines (R297, R320, R355) -/

theorem cetGuard : Spec R E cetGuard :=
  h.reading fun _ => Spec.ite (fun _ s => h.refuse s _) fun _ => h.skip _

theorem fetchDesc (sel : Half) (x : Vector8) : Spec R E (fetchDesc sel x) :=
  Spec.ite
    (fun _ => h.reading fun _ => h.andThen (h.raiseIf _ _ _) fun _ => h.andThen (h.raiseIf _ _ _) fun _ =>
      h.memRead _ _ _)
    fun _ => h.reading fun _ => h.andThen (h.raiseIf _ _ _) fun _ => h.memRead _ _ _

theorem realModeInt (v : Vector8) : Spec R E (realModeInt v) :=
  h.reading fun _ => h.andThen (h.raiseIf _ _ _) fun _ => h.andThen (h.push _ _) fun _ => h.andThen (h.push _ _) fun _ =>
    h.andThen (h.push _ _) fun _ => h.andThen (h.memRead _ _ _) fun _ => h.andThen (h.raiseIf _ _ _) fun _ =>
    h.andThen (h.memRead _ _ _) fun _ => h.modifyCtx _

theorem taskGate (v : Vector8) (t : Half) (p : Bool) (ec : Half) : Spec R E (taskGate v t p ec) :=
  h.andThen (h.raiseIf _ _ _) fun _ => h.andThen (h.fetchDesc _ _) fun _ => h.andThen (h.raiseIf _ _ _) fun _ =>
    h.andThen (h.raiseIf _ _ _) fun _ => h.andThen (h.emit _) fun _ => h.finish _

theorem tssStack32 (pl : BitVec 2) : Spec R E (tssStack32 pl) :=
  h.reading fun _ => h.andThen (h.raiseIf _ _ _) fun _ => h.andThen (h.memRead _ _ _) fun _ =>
    h.andThen (h.memRead _ _ _) fun _ => h.skip _

theorem tssStack16 (pl : BitVec 2) : Spec R E (tssStack16 pl) :=
  h.reading fun _ => h.andThen (h.raiseIf _ _ _) fun _ => h.andThen (h.memRead _ _ _) fun _ =>
    h.andThen (h.memRead _ _ _) fun _ => h.skip _

theorem tssStack (pl : BitVec 2) : Spec R E (tssStack pl) :=
  h.reading fun _ => h.andThen (h.abortIf _ _) fun _ => Spec.ite (fun _ => h.tssStack32 pl) fun _ =>
    Spec.ite (fun _ => h.tssStack16 pl) fun _ => h.abortNow _

theorem loadCs (sel : Half) (d : Desc) (pl : BitVec 2) : Spec R E (loadCs sel d pl) := h.modifyCtx _

theorem innerDelivery (g : Gate) (c : Desc) (big p : Bool) (ec : Half) : Spec R E (innerDelivery g c big p ec) :=
  h.andThen (h.tssStack _) fun _ => h.reading fun _ => h.andThen (h.raiseIf _ _ _) fun _ =>
    h.andThen (h.raiseIf _ _ _) fun _ => h.andThen (h.fetchDesc _ _) fun _ => h.andThen (h.raiseIf _ _ _) fun _ =>
    h.andThen (h.raiseIf _ _ _) fun _ => h.andThen (h.raiseIf _ _ _) fun _ => h.andThen (h.raiseIf _ _ _) fun _ =>
    h.andThen (h.raiseIf _ _ _) fun _ => h.andThen (h.pushInner _ _ _ _ _ _) fun _ => h.andThen (h.loadCs _ _ _) fun _ =>
    h.modifyCtx _

theorem sameLevelDelivery (g : Gate) (c : Desc) (big p : Bool) (ec : Half) :
    Spec R E (sameLevelDelivery g c big p ec) :=
  h.reading fun _ => h.andThen (h.raiseIf _ _ _) fun _ => h.andThen (h.raiseIf _ _ _) fun _ =>
    h.andThen (h.push _ _) fun _ => h.andThen (h.push _ _) fun _ => h.andThen (h.push _ _) fun _ =>
    h.andThen (h.when (h.push _ _)) fun _ => h.loadCs _ _ _

theorem protGate (g : Gate) (p : Bool) (ec : Half) : Spec R E (protGate g p ec) :=
  h.andThen (h.raiseIf _ _ _) fun _ => h.andThen (h.fetchDesc _ _) fun _ => h.reading fun _ =>
    h.andThen (h.raiseIf _ _ _) fun _ => h.andThen (h.raiseIf _ _ _) fun _ =>
    h.andThen (h.reading fun _ =>
      Spec.ite (fun _ => h.innerDelivery _ _ _ _ _) fun _ => h.sameLevelDelivery _ _ _ _ _) fun _ =>
    h.modifyCtx _

theorem protModeInt (v : Vector8) (soft p : Bool) (ec : Half) : Spec R E (protModeInt v soft p ec) :=
  h.andThen h.cetGuard fun _ => h.reading fun _ => h.andThen (h.raiseIf _ _ _) fun _ => h.andThen (h.memRead _ _ _) fun _ =>
    h.andThen (h.raiseIf _ _ _) fun _ => h.andThen (h.raiseIf _ _ _) fun _ => h.andThen (h.raiseIf _ _ _) fun _ =>
    Spec.ite (fun _ => h.taskGate _ _ _ _) fun _ => h.protGate _ _ _

theorem tssRsp (k : Nat) : Spec R E (tssRsp k) :=
  h.reading fun _ => h.andThen (h.abortIf _ _) fun _ => h.andThen (h.abortIf _ _) fun _ =>
    h.andThen (h.raiseIf _ _ _) fun _ => h.memRead _ _ _

theorem longStack (ist : BitVec 3) (inner : Bool) (pl : BitVec 2) : Spec R E (longStack ist inner pl) :=
  h.reading fun _ => Spec.ite (fun _ => h.tssRsp _) fun _ => Spec.ite (fun _ => h.tssRsp _) fun _ => h.skip _

theorem longGate (g : Gate) (p : Bool) (ec : Half) : Spec R E (longGate g p ec) :=
  h.andThen (h.raiseIf _ _ _) fun _ => h.andThen (h.fetchDesc _ _) fun _ => h.reading fun _ =>
    h.andThen (h.raiseIf _ _ _) fun _ => h.andThen (h.raiseIf _ _ _) fun _ => h.andThen (h.raiseIf _ _ _) fun _ =>
    h.andThen (h.longStack _ _ _) fun _ => h.andThen (h.pushLong _ _ _) fun _ => h.andThen (h.raiseIf _ _ _) fun _ =>
    h.andThen (h.loadCs _ _ _) fun _ => h.modifyCtx _

theorem longModeInt (v : Vector8) (soft p : Bool) (ec : Half) : Spec R E (longModeInt v soft p ec) :=
  h.andThen h.cetGuard fun _ => h.reading fun _ => h.andThen (h.raiseIf _ _ _) fun _ => h.andThen (h.memRead _ _ _) fun _ =>
    h.andThen (h.memRead _ _ _) fun _ => h.andThen (h.raiseIf _ _ _) fun _ => h.andThen (h.raiseIf _ _ _) fun _ =>
    h.andThen (h.raiseIf _ _ _) fun _ => h.andThen (h.raiseIf _ _ _) fun _ => h.longGate _ _ _

theorem legacyDelivery (v : Vector8) (soft p : Bool) (ec : Half) : Spec R E (legacyDelivery v soft p ec) :=
  h.writing (fun s => h.exc s _) <|
    h.andThen (h.reading fun _ => Spec.ite (fun _ => h.protModeInt _ _ _ _) fun _ => h.realModeInt _) fun _ =>
    h.modifyExc _

/-- Everything a delivery can do (R292). -/
theorem deliver (v : Vector8) (type : BitVec 3) (p : Bool) (ec : Half) : Spec R E (deliver v type p ec) :=
  h.andThen (h.modifySched fun _ hd => hd.clearTraps _) fun _ => h.andThen (h.modifyExc _) fun _ =>
    h.andThen (h.reading fun _ => Spec.ite (fun _ => h.longModeInt _ _ _ _) fun _ => h.legacyDelivery _ _ _ _) fun _ =>
    h.writing (fun s => h.exc s _) (h.emit _)

/-! ### Taking an exception (R262) -/

theorem rollbackIfFault (k : FaultKind) (v : Vector8) : Spec R E (rollbackIfFault k v) :=
  h.when (Spec.modify fun s => h.trans (h.ctx s (rollbackCtx v s.exc s.ctx)) (h.exc _ { s.exc with specRsp := false }))

theorem tripleFault : Spec R E (tripleFault : M α) := by
  intro s
  rw [run_tripleFault]
  by_cases hc : s.cfg.tripleFaultAction = .reset
  · rw [if_pos hc]
    exact h.reset s .tripleFault
  · rw [if_neg hc]
    exact h.shutDown s

theorem tripleIfDouble : Spec R E tripleIfDouble := h.reading fun _ => h.when h.tripleFault

theorem commitIfDb (v : Vector8) : Spec R E (commitIfDb v) := h.when (Spec.modify fun s => h.regs s _ .debug)

theorem classify (t : ExcClass) (p : Bool) (ec : Half) : Spec R E (classify t p ec) :=
  h.reading fun s => by
    cases nextClass s.exc.lastType t with
    | none => exact h.skip _
    | some c => exact h.andThen (h.modifyExc _) fun _ => h.skip _

theorem exceptionStage (v : Vector8) (ec : Half) : Spec R E (exceptionStage v ec) :=
  h.andThen (h.abortIf _ _) fun _ => h.reading fun _ => h.andThen (h.askExc _ _ _ _) fun _ =>
    h.andThen (h.rollbackIfFault _ _) fun _ => h.andThen h.tripleIfDouble fun _ => h.andThen (h.commitIfDb _) fun _ =>
    h.andThen (h.modifyExc _) fun _ => h.classify _ _ _

/-- Everything taking an exception can do. -/
theorem exception (n : Nat) (v : Vector8) (ec : Half) : Spec R E (exception n v ec) := by
  induction n generalizing v ec with
  | zero => exact fun s => h.depth s
  | succ n ih =>
    refine h.andThen (h.exceptionStage v ec) fun st => ?_
    cases st with
    | escalate => exact ih _ _
    | deliver p ec' =>
      exact Spec.onRaise h.toChain h.caught (h.deliver _ _ _ _)
        (fun _ => h.andThen (h.modifyExc _) fun _ => h.skip _) ih

end RuleSteps

end Sys2Proof.Machine
end

section
/-! SUPPORT. The rules of the 58 commands, each from the constructs of `RuleSteps`. Where a register takes a checked value,
the rule is followed from the state in which it tests to the state in which it writes: nothing but the history changes in
between. -/

namespace Sys2Proof.Machine

variable {R : State → State → Prop} {E : State → State → Stop → Prop} {α β : Type} {i : Instr}

/-! ### The transition of paging (R131, R134 to R136) -/

theorem cr0Efer_of_enters {s : State} {v : Word} (he : cr0Enters s v = true) (hlme : s.regs.lme = true) :
    cr0Efer s v = s.regs.efer ||| eferLma :=
  if_pos (by rw [he, Bool.true_and]; exact hlme)

theorem cr0Efer_of_leaves {s : State} {v : Word} (hl : cr0Leaves s v = true) :
    cr0Efer s v = clearBits s.regs.efer eferLma := by
  have he : cr0Enters s v = false := by
    simp only [cr0Leaves, Bool.and_eq_true] at hl
    simp only [cr0Enters, hl.1, Bool.not_true, Bool.false_and]
  unfold cr0Efer
  rw [he, hl, Bool.false_and, if_neg Bool.false_ne_true, if_pos rfl]
  rfl

theorem cr0Efer_of_stays {s : State} {v : Word} (he : (cr0Enters s v && s.regs.lme) = false)
    (hl : cr0Leaves s v = false) : cr0Efer s v = s.regs.efer :=
  (if_neg (Bool.eq_false_iff.mp he)).trans (if_neg (Bool.eq_false_iff.mp hl))

/-- Where LMA is clear, clearing it changes nothing. -/
theorem clearBits_eferLma {x : Word} (h : x.getLsbD 10 = false) : clearBits x eferLma = x := by
  have others : ∀ k : Fin 64, k.val ≠ 10 → (~~~eferLma).getLsbD k.val = true := by decide
  refine BitVec.eq_of_getLsbD_eq fun k hk => ?_
  rw [clearBits, BitVec.getLsbD_and]
  by_cases h10 : k = 10
  · rw [h10, h, Bool.false_and]
  · rw [others ⟨k, hk⟩ h10, Bool.and_true]

theorem setRegs_efer_self (s : State) : s.setRegs { s.regs with efer := s.regs.efer } = s := rfl

/-- Entering long mode is refused, or its prerequisites hold and LMA is set (R134). -/
theorem longEntry_cases {s : State} (hlme : s.regs.lme = true) :
    longEntry s = .error (.raise 13#8 0#16) s
      ∨ (s.regs.pae = true ∧ s.ctx.cs.cache.l = false ∧ 3#4 < s.ctx.tr.cache.type)
        ∧ longEntry s = .ok () (s.setRegs { s.regs with efer := s.regs.efer ||| eferLma }) := by
  cases hpae : s.regs.pae with
  | false => exact .inl (by simp [longEntry, hlme, hpae])
  | true =>
    cases hl : s.ctx.cs.cache.l with
    | true => exact .inl (by simp [longEntry, hlme, hpae, hl])
    | false =>
      by_cases ht : s.ctx.tr.cache.type ≤ 3#4
      · exact .inl (by simp [longEntry, hlme, hpae, hl, ht])
      · exact .inr ⟨⟨rfl, rfl, BitVec.not_le.mp ht⟩, by simp [longEntry, hlme, hpae, hl, ht]⟩

/-- Leaving long mode is refused, or its prerequisites hold and LMA is cleared (R135). -/
theorem longExit_cases (s : State) :
    longExit s = .error (.raise 13#8 0#16) s
      ∨ (s.mode ≠ .long64 ∧ (s.regs.lma = true → s.regs.pcide = false))
        ∧ longExit s = .ok () (s.setRegs { s.regs with efer := clearBits s.regs.efer eferLma }) := by
  by_cases hm : s.mode = .long64
  · exact .inl (by simp [longExit, hm])
  have hne : (s.mode == .long64) = false := beq_eq_false_iff_ne.mpr hm
  cases hlma : s.regs.lma with
  | false =>
    have same : clearBits s.regs.efer eferLma = s.regs.efer := clearBits_eferLma hlma
    exact .inr ⟨⟨hm, nofun⟩, by simp [longExit, hne, hlma, same, setRegs_efer_self]⟩
  | true =>
    cases hp : s.regs.pcide with
    | true => exact .inl (by simp [longExit, hne, hlma, hp])
    | false => exact .inr ⟨⟨hm, fun _ => rfl⟩, by simp [longExit, hne, hlma, hp]⟩

theorem pgTransition_eq (s : State) (v : Word) :
    pgTransition s.regs.pg (v.getLsbD 31)
      = if cr0Enters s v then longEntry else if cr0Leaves s v then longExit else pure () := rfl

/-- The transition of CR0.PG is refused, or its prerequisites hold and EFER takes its value. -/
theorem pgTransition_cases (s : State) (v : Word) :
    pgTransition s.regs.pg (v.getLsbD 31) s = .error (.raise 13#8 0#16) s
      ∨ (LongEntryOk s v ∧ LongExitOk s v)
        ∧ pgTransition s.regs.pg (v.getLsbD 31) s = .ok () (s.setRegs { s.regs with efer := cr0Efer s v }) := by
  rw [pgTransition_eq]
  cases he : cr0Enters s v with
  | true =>
    have hl : cr0Leaves s v = false := by
      simp only [cr0Enters, Bool.and_eq_true, Bool.not_eq_true'] at he
      simp only [cr0Leaves, he.1, Bool.false_and]
    have noExit : LongExitOk s v := fun h => absurd (hl.symm.trans h) Bool.false_ne_true
    rw [if_pos rfl]
    cases hlme : s.regs.lme with
    | true =>
      rw [cr0Efer_of_enters he hlme]
      exact (longEntry_cases hlme).imp_right fun ⟨pre, e⟩ => ⟨⟨fun _ _ => pre, noExit⟩, e⟩
    | false =>
      rw [cr0Efer_of_stays (by rw [hlme, Bool.and_false]) hl]
      exact .inr ⟨⟨fun _ h => absurd (hlme.symm.trans h) Bool.false_ne_true, noExit⟩,
        by simp [longEntry, hlme, setRegs_efer_self]⟩
  | false =>
    have noEntry : LongEntryOk s v := fun h => absurd (he.symm.trans h) Bool.false_ne_true
    rw [if_neg Bool.false_ne_true]
    cases hl : cr0Leaves s v with
    | true =>
      rw [if_pos rfl, cr0Efer_of_leaves hl]
      exact (longExit_cases s).imp_right fun ⟨pre, e⟩ => ⟨⟨noEntry, fun _ => pre⟩, e⟩
    | false =>
      rw [if_neg Bool.false_ne_true, cr0Efer_of_stays (by rw [he, Bool.false_and]) hl]
      exact .inr ⟨⟨noEntry, fun h => absurd (hl.symm.trans h) Bool.false_ne_true⟩, rfl⟩

/-- Where the PDPTEs are validated, EFER has not changed (R136): entering long mode takes LMA, leaving it paging. -/
theorem cr0Efer_of_walks {s : State} {v : Word} (hw : cr0Walks s v = true) : cr0Efer s v = s.regs.efer := by
  simp only [cr0Walks, Bool.and_eq_true, Bool.not_eq_true'] at hw
  obtain ⟨⟨hpg, -⟩, hlma⟩ := hw
  have hl : cr0Leaves s v = false := by simp only [cr0Leaves, hpg, Bool.not_true, Bool.and_false]
  cases he : cr0Enters s v && s.regs.lme with
  | false => exact cr0Efer_of_stays he hl
  | true =>
    obtain ⟨he, hlme⟩ := Bool.and_eq_true_iff.mp he
    have hset : eferLma.getLsbD 10 = true := by decide
    rw [cr0Efer_of_enters he hlme, BitVec.getLsbD_or, hset, Bool.or_true] at hlma
    exact nomatch hlma

theorem onlyLogs_cr0Pdptes (pg : Bool) : Spec onlyLogs anyExit (cr0Pdptes pg) :=
  Spec.bind onlyLogs_chain (Spec.get onlyLogs_chain) fun _ => onlyLogs_pdptesIf _ _

/-- The test of R136 in the state after the transition, where no PDPTE is validated. -/
theorem run_cr0Pdptes_of_not_walks {s : State} {v : Word} (hw : cr0Walks s v = false) :
    cr0Pdptes (v.getLsbD 31) (s.setRegs { s.regs with efer := cr0Efer s v })
      = .ok () (s.setRegs { s.regs with efer := cr0Efer s v }) :=
  congrArg (fun b => pdptesIf b s.regs.cr3 (s.setRegs { s.regs with efer := cr0Efer s v })) hw

namespace RuleSteps

variable (h : RuleSteps i R E)
include h

/-! ### The control registers (R131 to R153) -/

theorem readPdptes (base : Word) (left k : Nat) : Spec R E (readPdptes base left k) := by
  induction left generalizing k with
  | zero => exact h.skip _
  | succ left ih =>
    exact h.andThen (h.physRead _) fun _ => h.reading fun _ =>
      Spec.ite (fun _ => h.skip _) fun _ => h.andThen (ih _) fun _ => h.skip _

theorem loadPdptes (es : Option (List Word)) : Spec R E (loadPdptes es) := by
  unfold Machine.loadPdptes
  split
  · exact h.emit _
  · exact h.raise _ _

theorem pdptesIf (b : Bool) (c : Word) : Spec R E (pdptesIf b c) :=
  h.when (h.andThen (h.readPdptes _ _ _) fun _ => h.loadPdptes _)

theorem cr0Pdptes (pg : Bool) : Spec R E (cr0Pdptes pg) := h.reading fun _ => h.pdptesIf _ _

/-- A rule that asks for CPL 0 and then obeys the layer goes on in the state it began in. -/
theorem privileged {q : State → RegAnswer} {f : State → Unit → M β} (hf : ∀ s, SpecAt R E (f s ()) s) :
    Spec R E (Machine.requireCpl0 >>= fun _ => get >>= fun s => Machine.obeyWrite (q s) >>= f s) := fun s =>
  SpecAt.bind_unchanged h.toChain h.requireCpl0 unchanged_requireCpl0 fun _ =>
    SpecAt.get_bind <| SpecAt.bind_unchanged h.toChain (h.obeyWrite _) (unchanged_obeyWrite _) fun _ => hf s

/-- The rest of an accepted CR0 write, from the transition on (R131). -/
theorem cr0Commit {v : Word} (hi : i = .wrcr0 v) {s : State} (legal : legalCr0 s v = true) {m : M β} (hm : Spec R E m) :
    SpecAt R E (Machine.pgTransition s.regs.pg (v.getLsbD 31) >>= fun _ => Machine.cr0Pdptes (v.getLsbD 31) >>= fun _ =>
      modifyRegs (fun r => { r with cr0 := norm0 s.cfg.cpuLevel v }) >>= fun _ => m) s := by
  obtain e | ⟨⟨entry, exit⟩, e⟩ := pgTransition_cases s v
  · unfold SpecAt
    rw [run_bind, e]
    exact h.raised s _ _
  · cases hw : cr0Walks s v with
    | false =>
      have e2 : Machine.cr0Pdptes (v.getLsbD 31) (s.setRegs { s.regs with efer := cr0Efer s v })
          = .ok () (s.setRegs { s.regs with efer := cr0Efer s v }) := run_cr0Pdptes_of_not_walks hw
      refine SpecAt.after h.toChain (h.regs s _ (.cr0 v hi legal entry exit)) hm ?_
      rw [run_bind_ok e, run_bind_ok e2, run_bind_ok (run_modifyRegs _ _)]
      rfl
    | true =>
      have same := cr0Efer_of_walks hw
      rw [same, setRegs_efer_self] at e
      unfold SpecAt
      rw [run_bind_ok e]
      refine SpecAt.bind h.toChain ((h.cr0Pdptes _).at s) (onlyLogs_cr0Pdptes _) fun _ s' ⟨new, hs⟩ => ?_
      subst hs
      have write := RegWrite.cr0 (i := i) (s := s.logged new) v hi legal entry exit
      rw [show cr0Efer (s.logged new) v = s.regs.efer from same] at write
      exact SpecAt.modify_bind h.toChain (h.regs _ _ write) hm

theorem wrcr0 {v : Word} (hi : i = .wrcr0 v) : Spec R E (wrcr0 v) :=
  h.privileged fun _ => SpecAt.raiseIf_bind (h.raised _ _ _) fun legal =>
    h.cr0Commit hi (by simpa using legal) <|
      h.andThen (h.andThen (h.emitFlushIf (hi ▸ rfl) _ _) fun _ => h.emitMode) fun _ => h.skip _

theorem wrcr2 (v : Word) : Spec R E (wrcr2 v) :=
  h.andThen h.requireCpl0 fun _ => h.reading fun _ => h.andThen (h.obeyWrite _) fun _ =>
    h.writing (fun s => h.regs s _ (.cr2 v)) (h.skip _)

theorem requireLegalCr3 (v : Word) : Spec R E (requireLegalCr3 v) :=
  h.reading fun _ => Spec.ite (fun _ => h.raiseIf _ _ _) fun _ => h.abortIf _ _

theorem wrcr3 {v : Word} (hi : i = .wrcr3 v) : Spec R E (wrcr3 v) :=
  h.andThen h.requireCpl0 fun _ => h.reading fun _ => h.andThen (h.obeyWrite _) fun _ =>
    h.andThen (h.requireLegalCr3 _) fun _ => h.andThen (h.pdptesIf _ _) fun _ =>
    h.writing (fun s => h.regs s _ (.cr3 _ (hi ▸ rfl))) <|
    h.andThen (h.reading fun _ => h.emitFlushIf (hi ▸ rfl) _ _) fun _ => h.skip _

theorem wrcr4 {v : Word} (hi : i = .wrcr4 v) : Spec R E (wrcr4 v) :=
  h.privileged fun s => SpecAt.raiseIf_bind (h.raised _ _ _) fun legal =>
    SpecAt.bind h.toChain ((h.pdptesIf _ _).at s) (onlyLogs_pdptesIf _ _) fun _ s' ⟨new, hs⟩ => by
      have passed : legalCr4 s v = true := by simpa using legal
      subst hs
      exact SpecAt.modify_bind h.toChain (h.regs _ _ (.cr4 v hi passed)) <|
        h.andThen (h.emitFlushIf (hi ▸ rfl) _ _) fun _ => h.andThen h.emitMode fun _ => h.skip _

theorem setVmxVTpr (set : Bool) (s : State) : R s (setVmxVTpr set s) := by
  unfold Machine.setVmxVTpr
  split
  · exact h.sched s _ fun hd => hd.setPending (by decide)
  · exact h.refl s

theorem obeyCr8Write : ∀ a : RegAnswer, Spec R E (obeyCr8Write a)
  | .pass => h.skip _
  | .exit e => h.vmExit e
  | .handled _ set => h.writing (h.setVmxVTpr set) (h.finish _)

theorem setTaskPriority (hi : systemWrite i = true) (t : BitVec 8) : Spec R E (setTaskPriority t) :=
  h.reading fun _ => Spec.ite (fun _ => h.writing (fun s => h.vtpr hi s t) (h.emit _)) fun _ =>
    h.writing (fun s => h.tpr hi s t) (h.emit _)

theorem wrcr8 {v : Word} (hi : i = .wrcr8 v) : Spec R E (wrcr8 v) :=
  h.reading fun _ => h.andThen (h.raiseIf _ _ _) fun _ => h.andThen h.requireCpl0 fun _ =>
    h.andThen (h.obeyCr8Write _) fun _ => h.andThen (h.raiseIf _ _ _) fun _ =>
    h.andThen (h.setTaskPriority (hi ▸ rfl) _) fun _ => h.skip _

theorem rdcr (n : CrNum) : Spec R E (rdcr n) :=
  h.andThen h.requireCpl0 fun _ => h.reading fun _ => h.obeyRead _ _

theorem rdcr8 : Spec R E rdcr8 := h.reading fun _ => h.andThen (h.raiseIf _ _ _) fun _ => h.rdcr _

theorem undefinedRegister : Spec R E undefinedRegister := h.raise _ _

/-! ### The debug registers (R173 to R179) -/

theorem generalDetect : Spec R E generalDetect :=
  h.reading fun _ => h.when <| h.andThen (h.modifySched fun _ hd => hd.addTraps (by decide)) fun _ => h.raise _ _

theorem drAccess (n : DrNum) (dir : Dir) : Spec R E (drAccess n dir) :=
  h.andThen h.generalDetect fun _ => h.andThen h.requireCpl0 fun _ => h.askPlain _

theorem requireAlias : Spec R E requireAlias := h.reading fun _ => h.raiseIf _ _ _

theorem wrdrAddr {n : DrNum} (hi : systemWrite i = true) (h6 : n ≠ .dr6) (h7 : n ≠ .dr7) (v : Word) :
    Spec R E (wrdrAddr n v) :=
  h.andThen (h.drAccess _ _) fun _ => h.reading fun _ => h.andThen (h.raiseIf _ _ _) fun _ =>
    h.writing (fun s => h.regs s _ (.address n v hi h6 h7)) (h.skip _)

theorem wrdrStatus (hi : systemWrite i = true) (v : Word) : Spec R E (wrdrStatus v) :=
  h.andThen (h.drAccess _ _) fun _ => h.andThen (h.raiseIf _ _ _) fun _ =>
    h.writing (fun s => h.regs s _ (.status v hi)) (h.skip _)

theorem wrdrControl (hi : systemWrite i = true) (v : Word) : Spec R E (wrdrControl v) :=
  h.andThen (h.drAccess _ _) fun _ => h.andThen (h.raiseIf _ _ _) fun _ =>
    h.writing (fun s => h.regs s _ (.control v hi)) (h.skip _)

theorem rddr (n : DrNum) : Spec R E (rddr n) := h.andThen (h.drAccess _ _) fun _ => h.reading fun _ => h.skip _

/-! ### EFER, XCR0 and IA32_XSS (R160 to R171) -/

theorem wrefer {v : Word} (hi : i = .wrefer v) : Spec R E (wrefer v) :=
  h.privileged fun s => SpecAt.raiseIf_bind (h.raised _ _ _) fun allowed =>
    SpecAt.raiseIf_bind (h.raised _ _ _) fun lme =>
      SpecAt.modify_bind h.toChain
        (h.regs _ _ (.efer v hi (by simpa using allowed) fun hpg => by simpa [hpg] using lme)) (h.skip _)

theorem rdefer : Spec R E rdefer := h.andThen h.requireCpl0 fun _ => h.reading fun _ => h.obeyRead _ _

theorem requireOsxsave : Spec R E requireOsxsave := h.reading fun _ => h.raiseIf _ _ _

theorem wrxcr {k : BitVec 8} {v : Word} (hi : i = .wrxcr k v) : Spec R E (wrxcr k v) :=
  h.andThen h.requireOsxsave fun _ => h.privileged fun s => SpecAt.raiseIf_bind (h.raised _ _ _) fun _ =>
    SpecAt.raiseIf_bind (h.raised _ _ _) fun legal =>
      SpecAt.modify_bind h.toChain (h.regs _ _ (.xcr0 v (hi ▸ rfl) (by simpa using legal))) <|
        h.andThen h.emitMode fun _ => h.skip _

theorem rdxcr (k : BitVec 8) : Spec R E (rdxcr k) :=
  h.andThen h.requireOsxsave fun _ => h.andThen (h.raiseIf _ _ _) fun _ => h.reading fun _ => h.skip _

theorem wrxss {v : Word} (hi : i = .wrxss v) : Spec R E (wrxss v) :=
  h.privileged fun s => SpecAt.raiseIf_bind (h.raised _ _ _) fun _ =>
    SpecAt.raiseIf_bind (h.raised _ _ _) fun allowed =>
      SpecAt.modify_bind h.toChain (h.regs _ _ (.xss v (hi ▸ rfl) (by simpa using allowed))) (h.skip _)

theorem rdxss : Spec R E rdxss :=
  h.andThen h.requireCpl0 fun _ => h.reading fun _ => h.andThen (h.raiseIf _ _ _) fun _ => h.obeyRead _ _

/-! ### The I/O permission check (R190 to R200) -/

theorem bitmapGrants (port : Half) (width : BitVec 8) : Spec R E (bitmapGrants port width) :=
  h.reading fun _ => Spec.ite (fun _ => h.skip _) fun _ => Spec.ite
    (fun _ => h.reading fun _ => h.andThen (h.memRead _ _ _) fun _ => Spec.ite (fun _ => h.skip _) fun _ =>
      h.andThen (h.memRead _ _ _) fun _ => h.skip _)
    fun _ => h.skip _

theorem denyUnless (granted : Bool) : Spec R E (denyUnless granted) :=
  Spec.ite (fun _ => h.skip _) fun _ => h.finish _

theorem chkio (width : BitVec 8) (out rep : Bool) (port : Half) : Spec R E (chkio width out rep port) :=
  h.andThen (h.abortIf _ _) fun _ => h.andThen (h.bitmapGrants _ _) fun _ => h.andThen (h.denyUnless _) fun _ =>
    h.andThen (h.askPlain _) fun _ =>
    h.writing (fun s => h.sched s _ fun hd => hd.addTraps (ioBpMatch_and s.regs port width)) (h.skip _)

/-! ### The scheduler's feeders (R245 to R249) -/

theorem signal (e : BitVec 4) (level : Bool) : Spec R E (signal e level) :=
  h.unlessBad fun he => h.andThen (h.modifySched fun _ hd => hd.putPending (by simpa using he) level) fun _ => h.skip _

theorem evmask (e : BitVec 4) (mask : Bool) : Spec R E (evmask e mask) :=
  h.andThen (h.modifySched fun _ hd => ⟨hd.debugTrap, hd.event3⟩) fun _ => h.skip _

theorem inhibit (m : BitVec 2) : Spec R E (inhibit m) :=
  h.andThen (h.modifySched fun _ hd => ⟨hd.debugTrap, hd.event3⟩) fun _ => h.skip _

theorem dbgtrap (b : Half) : Spec R E (dbgtrap b) :=
  h.unlessBad fun hb => h.andThen (h.modifySched fun _ hd => hd.addTraps (by simpa using hb)) fun _ => h.skip _

theorem activity (code : BitVec 3) : Spec R E (activity code) := by
  unfold Machine.activity
  cases activityOf code with
  | none => exact h.abortNow _
  | some a =>
    exact h.andThen (h.modifySched fun _ hd => ⟨hd.debugTrap, hd.event3⟩) fun _ => h.andThen (h.modifyCtx _) fun _ =>
      h.skip _

/-! ### Exceptions, interrupts and snapshots (R260, R276 to R278, R290) -/

theorem raiseCommand (v : Vector8) (ec : Half) (addr : Word) : Spec R E (raiseCommand v ec addr) :=
  h.andThen (h.when (Spec.modify fun s => h.regs s _ (.cr2 addr))) fun _ => h.raise _ _

theorem intCommand (v : Vector8) (type : BitVec 3) (push : Bool) (ec : Half) : Spec R E (intCommand v type push ec) :=
  h.andThen (h.abortIf _ _) fun _ => h.andThen (h.when (h.askExc _ _ _ _)) fun _ => h.reading fun _ =>
    h.andThen (h.deliver _ _ _ _) fun _ => h.skip _

theorem instrStart : Spec R E instrStart := h.writing (fun s => h.exc s _) (h.skip _)

theorem specRsp : Spec R E specRsp := h.writing (fun s => h.exc s _) (h.skip _)

theorem commitRsp : Spec R E commitRsp := h.andThen (h.modifyExc _) fun _ => h.skip _

/-! ### The pass `BOUNDARY` (R220 to R253) -/

theorem clearPending (e : Nat) : Spec R E (clearPending e) := h.modifySched fun _ hd => hd.clearPending _ _

theorem stepKill : Spec R E stepKill := h.reading fun _ => h.when (h.finish _)

theorem haltedFirst : Spec R E haltedFirst :=
  h.reading fun _ => h.when <| h.andThen h.stepKill fun _ => h.reading fun _ =>
    Spec.ite (fun _ => h.modifySched fun _ hd => ⟨hd.debugTrap, hd.event3⟩) fun _ => h.finish _

theorem stepTaskTrap : Spec R E stepTaskTrap := h.reading fun _ => h.raiseIf _ _ _

theorem apicTrap (e : Nat) : Spec R E (apicTrap e) :=
  h.reading fun _ => h.when <| h.andThen (h.clearPending _) fun _ => h.obeyPlain _

theorem stepApic : Spec R E stepApic :=
  h.andThen (h.apicTrap _) fun _ => h.andThen (h.apicTrap _) fun _ => h.apicTrap _

theorem stepSmi : Spec R E stepSmi :=
  h.reading fun _ => h.when <| h.andThen (h.clearPending _) fun _ => h.andThen (h.askPlain _) fun _ =>
    h.andThen (h.emit _) fun _ => h.finish _

theorem stepInit : Spec R E stepInit :=
  h.reading fun _ => h.when <| h.andThen (h.clearPending _) fun _ => h.andThen (h.askPlain _) fun _ =>
    fun s => h.reset s .init

theorem stepMtf : Spec R E stepMtf :=
  h.reading fun _ => h.when <| h.andThen (h.clearPending _) fun _ => h.vmExit _

theorem stepDebug : Spec R E stepDebug :=
  h.reading fun _ => Spec.ite (fun _ => h.modifySched fun d hd => hd.clearTraps d.inhibit) fun _ => h.raiseIf _ _ _

theorem deliverAsync (v : Vector8) (type : BitVec 3) : Spec R E (deliverAsync v type) :=
  h.andThen (h.deliver _ _ _ _) fun _ => h.writing (fun s => h.exc s _) (h.skip _)

theorem takeNmi : Spec R E takeNmi :=
  h.andThen (h.modifySched fun _ hd => hd.clearPending _ _) fun _ => h.andThen (h.askPlain _) fun _ =>
    h.andThen (h.modifyExc _) fun _ => h.deliverAsync _ _

theorem takeExternal (v : Vector8) : Spec R E (takeExternal v) :=
  h.andThen (h.emit _) fun _ => h.andThen (h.askPlain _) fun _ => h.andThen (h.modifyExc _) fun _ => h.deliverAsync _ _

theorem takeVirtual : Spec R E takeVirtual :=
  h.andThen (h.clearPending _) fun _ => h.reading fun _ => h.andThen (h.modifyExc _) fun _ => h.deliverAsync _ _

theorem takeLapic : Spec R E takeLapic :=
  h.andThen (h.clearPending _) fun _ => h.reading fun _ => h.takeExternal _

theorem takePic : Spec R E takePic :=
  h.andThen (h.clearPending _) fun _ => h.reading fun _ => h.takeExternal _

theorem takeMaskable : Spec R E takeMaskable :=
  h.reading fun _ => Spec.ite (fun _ => h.takeVirtual) fun _ => Spec.ite (fun _ => h.takeLapic) fun _ => h.takePic

theorem takeSvmVirq : Spec R E takeSvmVirq :=
  h.andThen (h.clearPending _) fun _ => h.reading fun _ => h.andThen (h.emit _) fun _ =>
    h.andThen (h.askPlain _) fun _ => h.deliverAsync _ _

theorem takeDma : Spec R E takeDma :=
  h.andThen (h.clearPending _) fun _ => h.andThen (h.emit _) fun _ => h.skip _

theorem takePreempt : Spec R E takePreempt := h.andThen (h.clearPending _) fun _ => h.vmExit _

theorem stepInterrupts : Spec R E stepInterrupts :=
  h.reading fun _ => Spec.ite (fun _ => h.skip _) fun _ => Spec.ite (fun _ => h.takePreempt) fun _ =>
    Spec.ite (fun _ => h.vmExit _) fun _ => Spec.ite (fun _ => h.takeNmi) fun _ => Spec.ite (fun _ => h.vmExit _) fun _ =>
    Spec.ite (fun _ => h.takeMaskable) fun _ => Spec.ite (fun _ => h.takeSvmVirq) fun _ =>
    Spec.ite (fun _ => h.takeDma) fun _ => h.skip _

theorem armSingleStep (s : State) : R s (armSingleStep s) := by
  unfold Machine.armSingleStep
  split
  · exact h.sched s _ fun hd => hd.addTraps (by decide)
  · exact h.refl s

theorem endPass (s : State) : R s (endPass s) := h.sched s _ fun hd => ⟨hd.debugTrap, hd.event3⟩

theorem boundary : Spec R E boundary :=
  h.andThen h.haltedFirst fun _ => h.andThen h.stepKill fun _ => h.andThen h.stepTaskTrap fun _ =>
    h.andThen h.stepApic fun _ => h.andThen h.stepSmi fun _ => h.andThen h.stepInit fun _ =>
    h.andThen h.stepMtf fun _ => h.andThen h.stepDebug fun _ => h.andThen h.stepInterrupts fun _ =>
    h.writing h.armSingleStep <| h.writing h.endPass (h.skip _)

end RuleSteps

/-- Everything the rule of `i` can do. -/
theorem RuleSteps.body (h : RuleSteps i R E) : Spec R E (body i) := by
  cases i with
  | wrcr0 v => exact h.wrcr0 rfl
  | wrcr2 v => exact h.wrcr2 v
  | wrcr3 v => exact h.wrcr3 rfl
  | wrcr4 v => exact h.wrcr4 rfl
  | wrcr8 v => exact h.wrcr8 rfl
  | wrcr1Ud | wrcr5Ud | wrcr6_7Ud _ | wrcr9Ud | wrcr10_11Ud _ | wrcr12_15Ud _ => exact h.undefinedRegister
  | rdcr0 | rdcr2 | rdcr3 | rdcr4 => exact h.rdcr _
  | rdcr8 => exact h.rdcr8
  | rdcr1Ud | rdcr5Ud | rdcr6_7Ud _ | rdcr9Ud | rdcr10_11Ud _ | rdcr12_15Ud _ => exact h.undefinedRegister
  | wrdr0 v => exact h.wrdrAddr (n := .dr0) rfl nofun nofun v
  | wrdr1 v => exact h.wrdrAddr (n := .dr1) rfl nofun nofun v
  | wrdr2 v => exact h.wrdrAddr (n := .dr2) rfl nofun nofun v
  | wrdr3 v => exact h.wrdrAddr (n := .dr3) rfl nofun nofun v
  | wrdr4 v => exact h.andThen h.requireAlias fun _ => h.wrdrStatus rfl v
  | wrdr5 v => exact h.andThen h.requireAlias fun _ => h.wrdrControl rfl v
  | wrdr6 v => exact h.wrdrStatus rfl v
  | wrdr7 v => exact h.wrdrControl rfl v
  | rddr0 | rddr1 | rddr2 | rddr3 | rddr6 | rddr7 => exact h.rddr _
  | rddr4 | rddr5 => exact h.andThen h.requireAlias fun _ => h.rddr _
  | wrdr8_15Ud _ | rddr8_15Ud _ => exact h.undefinedRegister
  | wrefer v => exact h.wrefer rfl
  | rdefer => exact h.rdefer
  | wrxcr k v => exact h.wrxcr rfl
  | rdxcr k => exact h.rdxcr k
  | wrxss v => exact h.wrxss rfl
  | rdxss => exact h.rdxss
  | chkio width out rep port => exact h.chkio width out rep port
  | boundary => exact h.boundary
  | inhibit m => exact h.inhibit m
  | signal e level => exact h.signal e level
  | evmask e mask => exact h.evmask e mask
  | dbgtrap b => exact h.dbgtrap b
  | activity a => exact h.activity a
  | raise v ec addr => exact h.raiseCommand v ec addr
  | int v type pushError ec => exact h.intCommand v type pushError ec
  | instrStart => exact h.instrStart
  | specRsp => exact h.specRsp
  | commitRsp => exact h.commitRsp

/-- Everything `i` can do until its response: its rule, and the exceptions the rule raises. -/
theorem RuleSteps.command (h : RuleSteps i R E) :
    Spec R E (onRaise (Machine.body i) pure (Machine.exception maxExceptions)) :=
  Spec.onRaise h.toChain h.caught h.body (fun a => h.skip a) fun v ec => h.exception _ v ec

end Sys2Proof.Machine
end

section
/-! SUPPORT. From the rule of a command to its next state: a command that ends normally answers `OK` or `DELIVERED`, so that
every other answer is an exit that `RuleSteps` lists (R8, R61, R102, R110). -/

namespace Sys2Proof.Machine

variable {R : State → State → Prop} {E : State → State → Stop → Prop} {α β : Type} {i : Instr}

/-! ### The answer of a command that ends normally (R110) -/

/-- The two answers a command gives without leaving its rule. -/
inductive Answer.Normal : Answer → Prop
  | ok (x : Word) : Normal (.ok x)
  | delivered (v : Vector8) : Normal (.delivered v)

/-- Where the command ends normally, it does so with a value of `P`. -/
def EndsIn (P : α → Prop) (m : M α) : Prop := ∀ s a s', m s = .ok a s' → P a

theorem EndsIn.pure {P : α → Prop} {a : α} (ha : P a) : EndsIn P (pure a : M α) := by
  rintro s _ _ ⟨⟩
  exact ha

theorem EndsIn.bind {P : β → Prop} {m : M α} {f : α → M β} (hf : ∀ a, EndsIn P (f a)) : EndsIn P (m >>= f) := by
  intro s b s' e
  rw [run_bind] at e
  cases e1 : m s with
  | ok a s1 => rw [e1] at e; exact hf a s1 b s' e
  | error x s1 => rw [e1] at e; cases e

theorem EndsIn.error {P : α → Prop} {m : M α} (hm : ∀ s, ∃ x s', m s = .error x s') : EndsIn P m := by
  intro s a s' e
  obtain ⟨x, s1, hx⟩ := hm s
  rw [hx] at e
  cases e

theorem EndsIn.raise {P : α → Prop} (v : Vector8) (ec : Half) : EndsIn P (raise v ec : M α) :=
  .error fun s => ⟨_, s, rfl⟩

theorem EndsIn.vmExit {P : α → Prop} (e : ExitInfo) : EndsIn P (vmExit e : M α) := .error fun s => ⟨_, s.exited e, rfl⟩

theorem EndsIn.abort {P : α → Prop} (r : AbortReason) : EndsIn P (abort r : M α) :=
  .error fun s => ⟨_, s.abortedBy r, rfl⟩

theorem EndsIn.onRaise {P : β → Prop} {Q : α → Prop} {m : M α} {k : α → M β} {f : Vector8 → Half → M β}
    (hm : EndsIn Q m) (hk : ∀ a, Q a → EndsIn P (k a)) (hf : ∀ v ec, EndsIn P (f v ec)) : EndsIn P (onRaise m k f) := by
  intro s b s' e
  cases e1 : m s with
  | ok a s1 =>
    rw [run_onRaise_ok e1] at e
    exact hk a (hm s a s1 e1) s1 b s' e
  | error x s1 =>
    unfold Machine.onRaise at e
    rw [e1] at e
    cases x with
    | raise v ec => exact hf v ec s1 b s' e
    | done a => cases e
    | refuse r => cases e
    | depth => cases e

theorem exception_endsNormally (n : Nat) (v : Vector8) (ec : Half) : EndsIn Answer.Normal (exception n v ec) := by
  induction n generalizing v ec with
  | zero => exact .error fun s => ⟨_, s, rfl⟩
  | succ n ih =>
    refine .bind fun st => ?_
    cases st with
    | escalate => exact ih _ _
    | deliver p ec' =>
      exact .onRaise (Q := fun _ => True) (fun _ _ _ _ => trivial) (fun _ _ => .bind fun _ => .pure (.delivered v)) ih

theorem obeyRead_endsNormally (cur : Word) : ∀ a : RegAnswer, EndsIn Answer.Normal (obeyRead a cur)
  | .pass => .pure (.ok cur)
  | .exit e => .vmExit e
  | .handled x _ => .pure (.ok x)

theorem rdcr_endsNormally (n : CrNum) : EndsIn Answer.Normal (rdcr n) :=
  .bind fun _ => .bind fun _ => obeyRead_endsNormally _ _

theorem activity_endsNormally (code : BitVec 3) : EndsIn Answer.Normal (activity code) := by
  unfold activity
  cases activityOf code with
  | none => exact .abort _
  | some a => exact .bind fun _ => .bind fun _ => .pure (.ok _)

theorem passAnswer_normal : ∀ d : Option Vector8, (passAnswer d).Normal
  | none => .ok _
  | some v => .delivered v

theorem boundary_endsNormally : EndsIn Answer.Normal boundary := by
  unfold boundary
  iterate 11 refine .bind fun _ => ?_
  exact .pure (passAnswer_normal _)

theorem body_endsNormally (i : Instr) : EndsIn Answer.Normal (body i) := by
  cases i with
  | wrcr1Ud | wrcr5Ud | wrcr6_7Ud _ | wrcr9Ud | wrcr10_11Ud _ | wrcr12_15Ud _ => exact .raise _ _
  | rdcr1Ud | rdcr5Ud | rdcr6_7Ud _ | rdcr9Ud | rdcr10_11Ud _ | rdcr12_15Ud _ => exact .raise _ _
  | wrdr8_15Ud _ | rddr8_15Ud _ => exact .raise _ _
  | raise v ec addr => exact .bind fun _ => .raise _ _
  | rdcr0 | rdcr2 | rdcr3 | rdcr4 => exact rdcr_endsNormally _
  | rdcr8 => exact .bind fun _ => .bind fun _ => rdcr_endsNormally _
  | rdefer => exact .bind fun _ => .bind fun _ => obeyRead_endsNormally _ _
  | rdxss => exact .bind fun _ => .bind fun _ => .bind fun _ => obeyRead_endsNormally _ _
  | activity code => exact activity_endsNormally code
  | boundary => exact boundary_endsNormally
  | int v type pushError ec => exact .bind fun _ => .bind fun _ => .bind fun _ => .bind fun _ => .pure (.delivered v)
  | _ =>
    repeat refine .bind fun _ => ?_
    exact .pure (.ok _)

/-! ### A command's next state (R8, R61, R102) -/

/-- Where a command that finds the block live answers, either it ended normally, or it left its rule with its answer. -/
theorem RuleSteps.exec_ends (h : RuleSteps i R E) {s t : State} (live : s.aborted = false) (e : exec i s = .next t) :
    ∃ a s', t = s'.respond a ∧ (a.Normal ∧ R s s' ∨ E s s' (.done a)) := by
  rw [exec_eq_runCommand, runCommand_eq live] at e
  have spec := h.command
  have normal : EndsIn Answer.Normal (onRaise (Machine.body i) pure (Machine.exception maxExceptions)) :=
    .onRaise (body_endsNormally i) (fun _ ha => .pure ha) fun v ec => exception_endsNormally _ v ec
  cases e1 : onRaise (Machine.body i) pure (Machine.exception maxExceptions) s with
  | ok a s' =>
    rw [e1] at e
    cases e
    exact ⟨a, s', rfl, .inl ⟨normal s a s' e1, spec.ok e1⟩⟩
  | error x s' =>
    rw [e1] at e
    cases x with
    | done a =>
      cases e
      exact ⟨a, s', rfl, .inr (spec.error e1)⟩
    | raise v ec => cases e
    | refuse r => cases e
    | depth => cases e

theorem exec_aborted (i : Instr) {s : State} (ha : s.aborted = true) : exec i s = .next (s.respond .abort) := by
  rw [exec_eq_runCommand, runCommand_aborted ha]

/-- A relation that admits the steps of `i`, whatever the exit, and the response, relates the states before and after `i`. -/
theorem RuleSteps.exec_related (h : RuleSteps i R fun s s' _ => R s s') (respond : ∀ s a, R s (s.respond a)) {s t : State}
    (e : exec i s = .next t) : R s t := by
  cases ha : s.aborted with
  | true =>
    rw [exec_aborted i ha] at e
    cases e
    exact respond s .abort
  | false =>
    obtain ⟨a, s', rfl, ⟨-, hr⟩ | hr⟩ := h.exec_ends ha e
    · exact h.trans hr (respond s' a)
    · exact h.trans hr (respond s' a)

end Sys2Proof.Machine
end

section
/-! SUPPORT. Two relations that `RuleSteps` admits, and the statement each settles: `aborted` is set wherever a command
answers `ABORT` or `SHUTDOWN` (R61), and the history only grows (R60, R88). -/

namespace Sys2Proof.Machine

/-! ### `aborted` (R61) -/

@[simp] theorem State.kind_respond (s : State) (a : Answer) : (s.respond a).kind = a.kind := by
  rw [State.kind, State.respond_response, BitVec.append_assoc]
  exact BitVec.extractLsb'_append_eq_left

theorem Answer.eq_abort_or_shutdown {a : Answer} (h : a.kind = 15#4 ∨ a.kind = 7#4) : a = .abort ∨ a = .shutdown := by
  cases a with
  | abort => exact .inl rfl
  | shutdown => exact .inr rfl
  | _ => exact absurd h (by simp [Answer.kind])

theorem Answer.Normal.kind_ne {a : Answer} (h : a.Normal) : ¬(a.kind = 15#4 ∨ a.kind = 7#4) := by
  cases h <;> simp [Answer.kind]

/-- A rule that leaves with `ABORT` or `SHUTDOWN` has set `aborted`. -/
def marksAbort (_ s' : State) (x : Stop) : Prop := x = .done .abort ∨ x = .done .shutdown → s'.aborted = true

theorem marksAbort_ruleSteps (i : Instr) : RuleSteps i (fun _ _ => True) marksAbort where
  refl _ := trivial
  trans _ _ := trivial
  pre _ h := h
  log _ _ _ := trivial
  flush _ _ _ := trivial
  port _ _ := trivial
  store _ _ _ _ := trivial
  regs _ _ _ := trivial
  ctx _ _ := trivial
  sched _ _ _ := trivial
  exc _ _ := trivial
  tpr _ _ _ := trivial
  vtpr _ _ _ := trivial
  raised _ _ _ := nofun
  caught _ _ _ _ _ := trivial
  done _ a ha hs h := by
    obtain h | h := h
    · cases h; exact absurd rfl ha
    · cases h; exact absurd rfl hs
  abort _ _ _ := rfl
  shutDown _ _ := rfl
  reset _ _ := nofun
  refuse _ _ := nofun
  depth _ := nofun

theorem aborted_of_kind {i : Instr} {s t : State} (e : exec i s = .next t) (hk : t.kind = 15#4 ∨ t.kind = 7#4) :
    t.aborted = true := by
  cases ha : s.aborted with
  | true =>
    rw [exec_aborted i ha] at e
    cases e
    exact ha
  | false =>
    obtain ⟨a, s', rfl, hend⟩ := (marksAbort_ruleSteps i).exec_ends ha e
    rw [State.kind_respond] at hk
    obtain ⟨hn, -⟩ | hx := hend
    · exact absurd hk hn.kind_ne
    · exact hx ((Answer.eq_abort_or_shutdown hk).imp (congrArg _) (congrArg _))

/-- Another agent clears `aborted` by the platform's reset alone (R410). -/
theorem hostStep_aborted {a : HostAction} {s : State} (ha : a ≠ .platformReset) : (hostStep a s).aborted = s.aborted := by
  cases a with
  | platformReset => exact absurd rfl ha
  | _ => rfl

theorem perform_aborted (c : Command) {s : State} (ha : s.aborted = true) : perform c s = .next (s.respond .abort) := by
  cases hd : decode c with
  | ok i => rw [perform_of_decode hd, exec_aborted i ha]
  | error x => rw [perform_of_undecodable hd, runCommand_aborted ha]

/-- Only the platform's reset takes the block out of `aborted`. -/
theorem platformReset_of_revived {s t : State} (e : step s = .next t) (ha : s.aborted = true) (ht : t.aborted = false) :
    ∃ rest, s.queue = .host .platformReset :: rest := by
  cases hq : s.queue with
  | nil =>
    rw [step_idle hq] at e
    cases e
    exact nomatch ha.symm.trans ht
  | cons r rest =>
    cases r with
    | command c =>
      rw [step_command hq, perform_aborted c (s := s.setQueue rest) ha] at e
      cases e
      exact nomatch ha.symm.trans ht
    | host a =>
      by_cases hr : a = .platformReset
      · exact ⟨rest, by rw [hr]⟩
      · rw [step_host hq] at e
        cases e
        exact nomatch ha.symm.trans ((hostStep_aborted (s := s.setQueue rest) hr).symm.trans ht)

/-- Settles O11: every exit with `ABORT` or `SHUTDOWN` has set `aborted`, which no command and no other action clears. -/
theorem abortedAnswersAbort : Obligations.AbortedAnswersAbort :=
  ⟨fun i _ ha => exec_aborted i ha, fun _ _ _ => aborted_of_kind, fun _ _ => platformReset_of_revived⟩

/-! ### The history (R60, R88) -/

/-- The history has grown, and a flush request is among the new entries only where `may` allows it. -/
def grows (may : Prop) (s s' : State) : Prop :=
  ∃ new, s'.hist = s.hist ++ new ∧ ∀ f, .tlbFlush f ∈ new → may

theorem grows.same {may : Prop} {s s' : State} (h : s'.hist = s.hist) : grows may s s' :=
  ⟨[], by simp [h], by simp⟩

theorem grows.one {may : Prop} {s s' : State} {e : Event} (h : s'.hist = s.hist ++ [e])
    (he : e.isFlush = true → may) : grows may s s' :=
  ⟨[e], h, fun f hf => he (by rw [← List.mem_singleton.mp hf]; rfl)⟩

theorem grows.trans {may : Prop} {a b c : State} : grows may a b → grows may b c → grows may a c := by
  rintro ⟨n1, h1, f1⟩ ⟨n2, h2, f2⟩
  exact ⟨n1 ++ n2, by rw [h2, h1, List.append_assoc], fun f hf => (List.mem_append.mp hf).elim (f1 f) (f2 f)⟩

theorem grows_ruleSteps (i : Instr) :
    RuleSteps i (grows (flushes i = true)) (fun s s' _ => grows (flushes i = true) s s') where
  refl _ := .same rfl
  trans := grows.trans
  pre := grows.trans
  log _ _ he := .one rfl fun hf => nomatch he.symm.trans hf
  flush hi _ _ := .one rfl fun _ => hi
  port _ _ := .same rfl
  store _ _ _ _ := .same rfl
  regs _ _ _ := .same rfl
  ctx _ _ := .same rfl
  sched _ _ _ := .same rfl
  exc _ _ := .same rfl
  tpr _ _ _ := .same rfl
  vtpr _ _ _ := .same rfl
  raised _ _ _ := .same rfl
  caught _ _ _ _ h := h
  done _ _ _ _ := .same rfl
  abort _ _ := .one rfl nofun
  shutDown _ := .one rfl nofun
  reset _ _ := .one rfl nofun
  refuse _ _ := .same rfl
  depth _ := .same rfl

theorem exec_grows {i : Instr} {s t : State} (e : exec i s = .next t) : grows (flushes i = true) s t :=
  (grows_ruleSteps i).exec_related (fun _ _ => .same rfl) e

theorem flushes_iff (i : Instr) :
    flushes i = true ↔ (∃ v, i = .wrcr0 v) ∨ (∃ v, i = .wrcr3 v) ∨ ∃ v, i = .wrcr4 v := by
  cases i <;> simp [flushes]

/-- Settles O15: every step of a command appends to the history, and a flush request is a step of three commands only. -/
theorem historyOnlyGrows : Obligations.HistoryOnlyGrows := by
  intro i s t e
  obtain ⟨new, hist, flush⟩ := exec_grows e
  exact ⟨new, hist, fun f hf => (flushes_iff i).mp (flush f hf)⟩

end Sys2Proof.Machine
end

section
/-! SUPPORT. Every write of `RegWrite` keeps the invariant of the control registers (R31, R413): for each register, the bits
of the value it takes. -/

namespace Sys2Proof.Machine

variable {i : Instr}

/-! ### The legality tests as the rules list their reasons -/

theorem legalCr0_iff (s : State) (v : Word) : legalCr0 s v = true ↔ Cr0Legal s v := by
  have pg : ∀ a b c : Bool, (!(a && !b && !c)) = true ↔ (c = false → a = true → b = true) := by decide
  have nw : ∀ a b c : Bool, (!(a && !b && c)) = true ↔ (c = true → a = true → b = true) := by decide
  have wp : ∀ a b : Bool, (!(!a && b)) = true ↔ (b = true → a = true) := by decide
  simp only [legalCr0, Bool.and_eq_true, beq_iff_eq, pg, nw, wp, decide_eq_true_eq]
  exact ⟨fun ⟨⟨⟨h1, h2⟩, h3⟩, h4⟩ => ⟨h1, h2, h3, h4⟩, fun h => ⟨⟨⟨h.upper, h.pg⟩, h.nw⟩, h.wp⟩⟩

theorem legalCr4_iff (s : State) (v : Word) : legalCr4 s v = true ↔ Cr4Legal s v := by
  have only : ∀ a b : Bool, (!(a && !b)) = true ↔ (a = true → b = true) := by decide
  have pcide : ∀ a b : Bool, (!(!a && b)) = true ↔ (a = false → b = false) := by decide
  have low : ∀ a b c : Bool, (!(a && !b && !c)) = true ↔ (a = true → b = false → c = true) := by decide
  have vmxe : ∀ a b c : Bool, (!(!a && b && c)) = true ↔ (c = true → b = true → a = true) := by decide
  have smm : ∀ a b : Bool, (!(a && b)) = true ↔ (b = true → a = false) := by decide
  simp only [legalCr4, bne, Bool.and_eq_true, beq_iff_eq, low, vmxe, only, pcide, smm]
  exact ⟨fun ⟨⟨⟨⟨⟨⟨h1, h2⟩, h3⟩, h4⟩, h5⟩, h6⟩, h7⟩ => ⟨h1, h2, h3, h4, h5, h6, h7⟩,
    fun h => ⟨⟨⟨⟨⟨⟨h.allowed, h.pae⟩, h.pcide⟩, h.cr3Low⟩, h.vmxe⟩, h.smm⟩, h.cet⟩⟩

/-! ### Values inside a mask -/

/-- A bit of a value inside a mask is a bit of the mask. -/
theorem getLsbD_of_and_not {x m : Word} (h : x &&& ~~~m = 0#64) {k : Nat} (hk : x.getLsbD k = true) :
    m.getLsbD k = true := by
  have hb := congrArg (BitVec.getLsbD · k) h
  have lt : k < 64 := BitVec.lt_of_getLsbD hk
  simpa [BitVec.getLsbD_and, BitVec.getLsbD_not, hk, lt] using hb

theorem and_eq_self_of_and_not {x m : Word} (h : x &&& ~~~m = 0#64) : x &&& m = x := by
  refine BitVec.eq_of_getLsbD_eq fun k _ => ?_
  rw [BitVec.getLsbD_and]
  cases hk : x.getLsbD k with
  | false => rfl
  | true => rw [getLsbD_of_and_not h hk, Bool.and_true]

theorem or_and_not {x y m : Word} (hx : x &&& ~~~m = 0#64) (hy : y &&& ~~~m = 0#64) : (x ||| y) &&& ~~~m = 0#64 := by
  rw [BitVec.and_or_distrib_right, hx, hy]
  rfl

theorem and_and_not_left {x m : Word} (hx : x &&& ~~~m = 0#64) (y : Word) : x &&& y &&& ~~~m = 0#64 := by
  rw [BitVec.and_assoc, BitVec.and_comm y, ← BitVec.and_assoc, hx, BitVec.zero_and]

/-! ### The value CR0 takes (R137) -/

theorem extractLsb'_setWidth_32 (w : BitVec 32) : (w.setWidth 64).extractLsb' 32 32 = 0#32 := by
  ext k hk
  simp

theorem norm0_upper (l : CpuLevel) (v : Word) : (norm0 l v).extractLsb' 32 32 = 0#32 := by
  cases l <;> exact extractLsb'_setWidth_32 _

theorem norm0_et (l : CpuLevel) (v : Word) : (norm0 l v).getLsbD 4 = true := by
  cases l <;> simp [norm0]

theorem norm0_pe (l : CpuLevel) (v : Word) : (norm0 l v).getLsbD 0 = v.getLsbD 0 := by
  cases l <;> simp [norm0]

theorem norm0_pg (l : CpuLevel) (v : Word) : (norm0 l v).getLsbD 31 = v.getLsbD 31 := by
  cases l <;> simp [norm0]

/-- At level 3, where R132 does not test NW, the normalisation sets CD. -/
theorem norm0_cd_of_nw {l : CpuLevel} {v : Word} (h : 4 ≤ l.toNat → v.getLsbD 29 = true → v.getLsbD 30 = true)
    (hnw : (norm0 l v).getLsbD 29 = true) : (norm0 l v).getLsbD 30 = true := by
  cases l with
  | l3 => simp [norm0]
  | _ => simp_all [norm0, CpuLevel.toNat]

theorem norm0_reserved {l : CpuLevel} (h : l = .l4 ∨ l = .l6) (v : Word) : norm0 l v &&& ~~~0xE005003F#64 = 0#64 := by
  have hmask : (0xE005003F#32).setWidth 64 &&& ~~~0xE005003F#64 = 0#64 := by decide
  obtain rfl | rfl := h
  · rw [norm0, BitVec.setWidth_and, BitVec.and_assoc, hmask, BitVec.and_zero]
  · rw [norm0, BitVec.setWidth_and, BitVec.and_assoc, hmask, BitVec.and_zero]

/-! ### The values EFER takes (R134, R135, R160 to R163) -/

theorem getLsbD_maskIf (b : Bool) (m : Word) (k : Nat) : (maskIf b m).getLsbD k = (b && m.getLsbD k) := by
  cases b <;> simp [maskIf]

theorem eferAllow_lme (c : Config) : (eferAllow c).getLsbD 8 = c.has .x86_64 := by
  simp only [eferAllow, BitVec.getLsbD_or, getLsbD_maskIf]
  simp

/-- LMA and LME are allowed together (R161). -/
theorem lma_allowed {c : Config} {x : Word} (hx : x &&& ~~~(eferAllow c) = 0#64) (hlme : x.getLsbD 8 = true) :
    eferLma &&& ~~~(eferAllow c) = 0#64 := by
  have hhas : c.has .x86_64 = true := eferAllow_lme c ▸ getLsbD_of_and_not hx hlme
  have hself : eferLma &&& ~~~0x501#64 = 0#64 := by decide
  simp only [eferAllow, hhas, maskIf, if_true, BitVec.not_or, ← BitVec.and_assoc, hself, BitVec.zero_and]

theorem eferWrite_lma (c : Config) (old v : Word) : (eferWrite c old v).getLsbD 10 = old.getLsbD 10 := by
  simp [eferWrite, clearBits, eferLma]

theorem eferWrite_lme {c : Config} {old v : Word} (hv : v &&& ~~~(eferAllow c) = 0#64) :
    (eferWrite c old v).getLsbD 8 = v.getLsbD 8 := by
  rw [eferWrite, and_eq_self_of_and_not hv]
  simp [clearBits, eferLma]

theorem eferWrite_allowed {c : Config} {old v : Word} (ho : old &&& ~~~(eferAllow c) = 0#64)
    (hv : v &&& ~~~(eferAllow c) = 0#64) : eferWrite c old v &&& ~~~(eferAllow c) = 0#64 :=
  or_and_not (and_and_not_left (and_and_not_left hv _) _) (and_and_not_left ho _)

/-! ### The values DR6 and DR7 take (R28, R176, R177, R270) -/

/-- Bits 32 to 63 of a value inside a mask of 32 bits. -/
theorem upper_and {m : Word} (hm : m.extractLsb' 32 32 = 0#32) (x : Word) : (x &&& m).extractLsb' 32 32 = 0#32 := by
  rw [BitVec.extractLsb'_and, hm, BitVec.and_zero]

theorem upper_or {x y : Word} (hx : x.extractLsb' 32 32 = 0#32) (hy : y.extractLsb' 32 32 = 0#32) :
    (x ||| y).extractLsb' 32 32 = 0#32 := by
  rw [BitVec.extractLsb'_or, hx, hy]
  rfl

/-- Merging bits of `b` into what `a` leaves of DR6 keeps the bits that read 1. -/
theorem dr6_ones {old a b : Word} (x : Word) (hold : old &&& 0xFFFF0FF0#64 = 0xFFFF0FF0#64)
    (ha : a &&& 0xFFFF0FF0#64 = 0xFFFF0FF0#64) (hb : b &&& 0xFFFF0FF0#64 = 0#64) :
    (old &&& a ||| x &&& b) &&& 0xFFFF0FF0#64 = 0xFFFF0FF0#64 := by
  rw [BitVec.and_or_distrib_right, BitVec.and_assoc, ha, hold, BitVec.and_assoc, hb, BitVec.and_zero]
  rfl

theorem getLsbD_merge {a b : Word} {k : Nat} (ha : a.getLsbD k = false) (hb : b.getLsbD k = false) (old x : Word) :
    (old &&& a ||| x &&& b).getLsbD k = false := by
  simp only [BitVec.getLsbD_or, BitVec.getLsbD_and, ha, hb, Bool.and_false, Bool.or_false]

theorem dr6Write_ones {old : Word} (hold : old &&& 0xFFFF0FF0#64 = 0xFFFF0FF0#64) (l : CpuLevel) (v : Word) :
    dr6Write l old v &&& 0xFFFF0FF0#64 = 0xFFFF0FF0#64 :=
  dr6_ones v hold (by decide) (by split <;> decide)

theorem dr6Write_upper (l : CpuLevel) (old v : Word) : (dr6Write l old v).extractLsb' 32 32 = 0#32 :=
  upper_or (upper_and (by decide) _) (upper_and (by split <;> decide) _)

theorem dr6Write_bit12 {l : CpuLevel} (hl : 5 ≤ l.toNat) (old v : Word) : (dr6Write l old v).getLsbD 12 = false :=
  getLsbD_merge (by decide) (by rw [if_neg (by omega)]; decide) _ _

theorem dr7Write_bit10 (l : CpuLevel) (v : Word) : (dr7Write l v).getLsbD 10 = true := by
  simp [dr7Write]

theorem dr7Write_upper (l : CpuLevel) (v : Word) : (dr7Write l v).extractLsb' 32 32 = 0#32 :=
  upper_or (upper_and (by split <;> decide) _) (by decide)

theorem dr7Write_zero {l : CpuLevel} (hl : 5 ≤ l.toNat) (v : Word) : dr7Write l v &&& 0xD000#64 = 0#64 := by
  have hmask : 0xFFFF2FFF#64 &&& 0xD000#64 = 0#64 := by decide
  rw [dr7Write, if_neg (by omega), BitVec.and_or_distrib_right, BitVec.and_assoc, hmask, BitVec.and_zero]
  rfl

/-- The merge of R270 as a merge of 64-bit values. -/
theorem commitDebug_dr6 (trap : BitVec 16) (r : ControlRegs) :
    (commitDebug trap r).dr6 = r.dr6 &&& 0xFFFF6FF0#64 ||| trap.setWidth 64 &&& 0xE00F#64 := by
  have htrap : (trap &&& 0xE00F#16).setWidth 64 = trap.setWidth 64 &&& 0xE00F#64 := BitVec.setWidth_and
  rw [commitDebug, htrap]

/-! ### Each write keeps the invariant -/

/-- Clearing GD leaves bit 10. -/
theorem clearGd_bit10 (d : Word) : (clearBits d 0x2000#64).getLsbD 10 = d.getLsbD 10 := by simp [clearBits]

theorem clearBits_upper {d : Word} (h : d.extractLsb' 32 32 = 0#32) (m : Word) :
    (clearBits d m).extractLsb' 32 32 = 0#32 := by
  rw [clearBits, BitVec.and_comm]
  exact upper_and h _

theorem clearBits_and {d z : Word} (h : d &&& z = 0#64) (m : Word) : clearBits d m &&& z = 0#64 := by
  rw [clearBits, BitVec.and_comm d, BitVec.and_assoc, h, BitVec.and_zero]

theorem RegsOk.commitDebug {c : Config} {r : ControlRegs} (hr : RegsOk c r) (trap : BitVec 16) :
    RegsOk c (commitDebug trap r) :=
  { hr with
    dr6Ones := commitDebug_dr6 trap r ▸ dr6_ones _ hr.dr6Ones (by decide) (by decide)
    dr6Upper := commitDebug_dr6 trap r ▸ upper_or (upper_and (by decide) _) (upper_and (by decide) _)
    dr6Bit12 := fun _ => commitDebug_dr6 trap r ▸ getLsbD_merge (by decide) (by decide) _ _
    dr7Bit10 := (clearGd_bit10 _).trans hr.dr7Bit10
    dr7Upper := clearBits_upper hr.dr7Upper _
    dr7Zero := fun hl => clearBits_and (hr.dr7Zero hl) _ }

theorem RegsOk.address {c : Config} {r : ControlRegs} (hr : RegsOk c r) {n : DrNum} (h6 : n ≠ .dr6) (h7 : n ≠ .dr7)
    (v : Word) : RegsOk c (putDr n v r) := by
  cases n with
  | dr6 => exact absurd rfl h6
  | dr7 => exact absurd rfl h7
  | dr0 | dr1 | dr2 | dr3 => exact { hr with }

theorem RegsOk.status {c : Config} {r : ControlRegs} (hr : RegsOk c r) (v : Word) :
    RegsOk c (putDr .dr6 (dr6Write c.cpuLevel r.dr6 v) r) :=
  { hr with
    dr6Ones := dr6Write_ones hr.dr6Ones _ _
    dr6Upper := dr6Write_upper _ _ _
    dr6Bit12 := fun hl => dr6Write_bit12 hl _ _ }

theorem RegsOk.control {c : Config} {r : ControlRegs} (hr : RegsOk c r) (v : Word) :
    RegsOk c (putDr .dr7 (dr7Write c.cpuLevel v) r) :=
  { hr with
    dr7Bit10 := dr7Write_bit10 _ _
    dr7Upper := dr7Write_upper _ _
    dr7Zero := fun hl => dr7Write_zero hl _ }

theorem RegsOk.cr4 {s : State} (hr : RegsOk s.cfg s.regs) {v : Word} (legal : Cr4Legal s v) :
    RegsOk s.cfg { s.regs with cr4 := v } :=
  { hr with
    lmaNeeds := fun hlma => ⟨(hr.lmaNeeds hlma).1, (hr.lmaNeeds hlma).2.1, legal.pae hlma⟩
    pcideNeedsLma := fun hp => by
      cases hlma : s.regs.lma with
      | true => exact hlma
      | false => exact nomatch hp.symm.trans (legal.pcide hlma)
    cr4Allowed := legal.allowed }

theorem RegsOk.efer {c : Config} {r : ControlRegs} (hr : RegsOk c r) {v : Word} (allowed : v &&& ~~~(eferAllow c) = 0#64)
    (lme : r.pg = true → v.getLsbD 8 = r.lme) : RegsOk c { r with efer := eferWrite c r.efer v } :=
  { hr with
    lmaNeeds := fun hlma => by
      obtain ⟨hpg, hlme, hpae⟩ := hr.lmaNeeds ((eferWrite_lma c r.efer v).symm.trans hlma)
      exact ⟨hpg, (eferWrite_lme allowed).trans ((lme hpg).trans hlme), hpae⟩
    pcideNeedsLma := fun hp => (eferWrite_lma c r.efer v).trans (hr.pcideNeedsLma hp)
    eferAllowed := eferWrite_allowed hr.eferAllowed allowed }

/-- EFER together with the paging bit `pg` as R31 wants them, the other registers being those of `s`. -/
structure EferOk (s : State) (pg : Bool) (e : Word) : Prop where
  lmaNeeds : e.getLsbD 10 = true → pg = true ∧ e.getLsbD 8 = true ∧ s.regs.pae = true
  pcideNeedsLma : s.regs.pcide = true → e.getLsbD 10 = true
  allowed : e &&& ~~~(eferAllow s.cfg) = 0#64

theorem cr0Efer_ok_of_enters {s : State} (hr : RegsOk s.cfg s.regs) {v : Word} (entry : LongEntryOk s v)
    (he : cr0Enters s v = true) (hlme : s.regs.lme = true) : EferOk s (v.getLsbD 31) (cr0Efer s v) := by
  have hpg : v.getLsbD 31 = true := (Bool.and_eq_true_iff.mp he).2
  have set : (s.regs.efer ||| eferLma).getLsbD 10 = true := by simp [eferLma]
  have kept : (s.regs.efer ||| eferLma).getLsbD 8 = s.regs.lme := by simp [eferLma, ControlRegs.lme]
  rw [cr0Efer_of_enters he hlme]
  exact ⟨fun _ => ⟨hpg, kept.trans hlme, (entry he hlme).1⟩, fun _ => set,
    or_and_not hr.eferAllowed (lma_allowed hr.eferAllowed hlme)⟩

theorem cr0Efer_ok_of_leaves {s : State} (hr : RegsOk s.cfg s.regs) {v : Word} (exit : LongExitOk s v)
    (hl : cr0Leaves s v = true) : EferOk s (v.getLsbD 31) (cr0Efer s v) := by
  have cleared : (clearBits s.regs.efer eferLma).getLsbD 10 = false := by simp [clearBits, eferLma]
  rw [cr0Efer_of_leaves hl]
  exact {
    lmaNeeds := fun h => nomatch cleared.symm.trans h
    pcideNeedsLma := fun hp => nomatch hp.symm.trans ((exit hl).2 (hr.pcideNeedsLma hp))
    allowed := and_and_not_left hr.eferAllowed _ }

theorem cr0Efer_ok_of_stays {s : State} (hr : RegsOk s.cfg s.regs) {v : Word}
    (he : (cr0Enters s v && s.regs.lme) = false) (hl : cr0Leaves s v = false) :
    EferOk s (v.getLsbD 31) (cr0Efer s v) := by
  have paging : s.regs.pg = true → v.getLsbD 31 = true := fun hpg => by
    have h : (s.regs.pg && !v.getLsbD 31) = false := hl
    rwa [hpg, Bool.true_and, Bool.not_eq_false'] at h
  rw [cr0Efer_of_stays he hl]
  exact ⟨fun hlma => (hr.lmaNeeds hlma).imp_left paging, hr.pcideNeedsLma, hr.eferAllowed⟩

/-- The transition of paging leaves EFER as R31 wants it with the paging bit that the write proposes. -/
theorem cr0Efer_ok {s : State} (hr : RegsOk s.cfg s.regs) {v : Word} (entry : LongEntryOk s v) (exit : LongExitOk s v) :
    EferOk s (v.getLsbD 31) (cr0Efer s v) := by
  cases hl : cr0Leaves s v with
  | true => exact cr0Efer_ok_of_leaves hr exit hl
  | false =>
    cases he : cr0Enters s v && s.regs.lme with
    | true =>
      obtain ⟨he, hlme⟩ := Bool.and_eq_true_iff.mp he
      exact cr0Efer_ok_of_enters hr entry he hlme
    | false => exact cr0Efer_ok_of_stays hr he hl

theorem RegsOk.cr0 {s : State} (hr : RegsOk s.cfg s.regs) (hi : InputsOk s.cfg s.inp) {v : Word} (legal : Cr0Legal s v)
    (entry : LongEntryOk s v) (exit : LongExitOk s v) :
    RegsOk s.cfg { s.regs with cr0 := norm0 s.cfg.cpuLevel v, efer := cr0Efer s v } :=
  have hefer := cr0Efer_ok hr entry exit
  { hr with
    cr0Upper := norm0_upper _ _
    cr0Et := norm0_et _ _
    cr0Reserved := fun hlevel => norm0_reserved hlevel _
    pgNeedsPe := fun hn hpg => by
      have noSvmGuest : s.inp.inSvmGuest = false := by rw [hi.svmGuest, beq_eq_false_iff_ne.mpr hn, Bool.and_false]
      exact (norm0_pe _ v).trans (legal.pg noSvmGuest ((norm0_pg _ v).symm.trans hpg))
    nwNeedsCd := norm0_cd_of_nw legal.nw
    lmaNeeds := fun hlma => (hefer.lmaNeeds hlma).imp_left (norm0_pg _ v).trans
    pcideNeedsLma := hefer.pcideNeedsLma
    eferAllowed := hefer.allowed }

theorem RegWrite.keeps {s : State} {r : ControlRegs} (w : RegWrite i s r) (hr : RegsOk s.cfg s.regs)
    (hi : InputsOk s.cfg s.inp) : RegsOk s.cfg r := by
  cases w with
  | cr2 a => exact { hr with }
  | debug => exact hr.commitDebug _
  | cr0 v _ legal entry exit => exact hr.cr0 hi ((legalCr0_iff s v).mp legal) entry exit
  | cr3 v _ => exact { hr with }
  | cr4 v _ legal => exact hr.cr4 ((legalCr4_iff s v).mp legal)
  | efer v _ allowed lme => exact hr.efer allowed lme
  | xcr0 v _ legal => exact { hr with xcr0Legal := legal }
  | xss v _ allowed => exact { hr with xssAllowed := allowed }
  | address n v _ h6 h7 => exact hr.address h6 h7 v
  | status v _ => exact hr.status v
  | control v _ => exact hr.control v

end Sys2Proof.Machine
end

section
/-! SUPPORT. Every command and every action of another agent keeps the invariant (R31, R413). -/

namespace Sys2Proof.Machine

variable {i : Instr}

/-- The invariant survives. -/
def keepsInv (s s' : State) : Prop := Inv s → Inv s'

/-- The invariant looks at no other field. -/
theorem Inv.of_same {s s' : State} (h : Inv s) (cfg : s'.cfg = s.cfg := by rfl) (regs : s'.regs = s.regs := by rfl)
    (sched : s'.sched = s.sched := by rfl) (inp : s'.inp = s.inp := by rfl) (mem : s'.mem = s.mem := by rfl)
    (phys : s'.phys = s.phys := by rfl) : Inv s' where
  regs := by rw [cfg, regs]; exact h.regs
  sched := by rw [sched]; exact h.sched
  inputs := by rw [cfg, inp]; exact h.inputs
  mem := by rw [mem]; exact h.mem
  phys := by rw [phys]; exact h.phys

theorem Inv.resetState {s : State} (h : Inv s) : Inv (resetState s) where
  regs := regsOk_reset _
  sched := schedOk_reset
  inputs := inputsOk_resetInputs _ _
  mem := h.mem
  phys := h.phys

theorem keepsInv_ruleSteps (i : Instr) : RuleSteps i keepsInv (fun s s' _ => keepsInv s s') where
  refl _ h := h
  trans h1 h2 h := h2 (h1 h)
  pre h1 h2 h := h2 (h1 h)
  log _ _ _ h := h.of_same
  flush _ _ _ h := h.of_same
  port _ _ h := h.of_same
  store _ a n v h := ⟨h.regs, h.sched, h.inputs, Memory.wf_writeLE h.mem a n v, h.phys⟩
  regs _ _ w h := ⟨w.keeps h.regs h.inputs, h.sched, h.inputs, h.mem, h.phys⟩
  ctx _ _ h := h.of_same
  sched _ _ hd h := ⟨h.regs, hd h.sched, h.inputs, h.mem, h.phys⟩
  exc _ _ h := h.of_same
  tpr _ _ _ h := h.of_same
  vtpr _ _ _ h := h.of_same
  raised _ _ _ h := h
  caught _ _ _ _ h := h
  done _ _ _ _ h := h
  abort _ _ h := h.of_same
  shutDown _ h := ⟨h.regs, ⟨h.sched.debugTrap, h.sched.event3⟩, h.inputs, h.mem, h.phys⟩
  reset _ _ h := h.resetState.of_same
  refuse _ _ h := h
  depth _ h := h

theorem exec_keepsInv {s t : State} (e : exec i s = .next t) : keepsInv s t :=
  (keepsInv_ruleSteps i).exec_related (fun _ _ h => h.of_same) e

theorem undecoded_keepsInv {s t : State} (e : runCommand (abort .badCommand) s = .next t) : keepsInv s t := by
  cases ha : s.aborted with
  | true =>
    rw [runCommand_aborted ha] at e
    cases e
    exact fun h => h.of_same
  | false =>
    rw [runCommand_done ha (run_abort _ _)] at e
    cases e
    exact fun h => h.of_same

theorem perform_keepsInv {c : Command} {s t : State} (e : perform c s = .next t) : keepsInv s t := by
  cases hd : decode c with
  | ok i => exact exec_keepsInv (perform_of_decode hd s ▸ e)
  | error x => exact undecoded_keepsInv (perform_of_undecodable hd s ▸ e)

/-! ### Other agents (log entries 16 and 17) -/

/-- The guest bits as the host drives them agree (R59). -/
theorem InputsOk.putInGuest {c : Config} {j : Inputs} (h : InputsOk c j) (b : Bool) : InputsOk c (putInGuest c b j) :=
  ⟨h.gif, rfl⟩

theorem InputsOk.setGif {c : Config} {j : Inputs} (h : InputsOk c j) (b : Bool) :
    InputsOk c { j with gif := b || c.nested != .svm } :=
  ⟨fun hn => by rw [bne_iff_ne.mpr hn, Bool.or_true], h.svmGuest⟩

theorem InputsOk.putAckVector {c : Config} {j : Inputs} (h : InputsOk c j) (src : AckSource) (v : Vector8) :
    InputsOk c (putAckVector src v j) := by
  cases src <;> exact ⟨h.gif, h.svmGuest⟩

theorem Inv.setInp {s : State} (h : Inv s) {j : Inputs} (hj : InputsOk s.cfg j) : Inv (s.setInp j) :=
  ⟨h.regs, h.sched, hj, h.mem, h.phys⟩

theorem hostStep_keepsInv (a : HostAction) (s : State) : keepsInv s (hostStep a s) := by
  intro h
  cases a with
  | setKillRequest b => exact h.setInp ⟨h.inputs.gif, h.inputs.svmGuest⟩
  | setInGuest b => exact h.setInp (h.inputs.putInGuest _)
  | setInSvmGuest b => exact h.setInp (h.inputs.putInGuest _)
  | setInSmm b => exact h.setInp ⟨h.inputs.gif, h.inputs.svmGuest⟩
  | setGif b => exact h.setInp (h.inputs.setGif b)
  | setSvmVIntrMasking b => exact h.setInp ⟨h.inputs.gif, h.inputs.svmGuest⟩
  | setAckVector src v => exact h.setInp (h.inputs.putAckVector src v)
  | setIntercepts c => exact h.setInp ⟨h.inputs.gif, h.inputs.svmGuest⟩
  | setApicTraps answers => exact h.setInp ⟨h.inputs.gif, h.inputs.svmGuest⟩
  | loadContext c => exact h.of_same
  | setTpr v => exact h.of_same
  | setVTpr v => exact h.of_same
  | storeLinear addr b => exact ⟨h.regs, h.sched, h.inputs, Memory.wf_set h.mem addr b, h.phys⟩
  | storePhys addr b => exact ⟨h.regs, h.sched, h.inputs, h.mem, Memory.wf_set h.phys addr b⟩
  | setPort answers => exact h.of_same
  | taskSwitchDone v type => exact h.of_same
  | platformReset => exact h.resetState.of_same

/-- Settles O9: the writes of a command and the actions of another agent each keep the invariant, and taking a request from
the queue touches no part of it. -/
theorem stepKeepsInvariant : Obligations.StepKeepsInvariant := by
  intro s t h e
  have taken : ∀ rest, Inv (s.setQueue rest) := fun _ => h.of_same
  cases hq : s.queue with
  | nil =>
    rw [step_idle hq] at e
    cases e
    exact h
  | cons r rest =>
    cases r with
    | command c => exact perform_keepsInv (step_command hq ▸ e) (taken rest)
    | host a =>
      rw [step_host hq] at e
      cases e
      exact hostStep_keepsInv a _ (taken rest)

end Sys2Proof.Machine
end

section
/-! SUPPORT. A store and a read of the same bytes (R72, R73, R77), as one number. -/

namespace Sys2Proof.Machine

/-- A read finds the low bytes of what a store of the same size left there. -/
theorem Memory.readLE_writeLE {m : Memory} (h : m.wf = true) (a : Word) {n : Nat} (hn : n ≤ 8) (v : Word) :
    (m.writeLE a n v).readLE a n = (v.setWidth (8 * n)).setWidth 64 := by
  refine BitVec.eq_of_getLsbD_eq fun k hk => ?_
  rw [Memory.getLsbD_readLE_writeLE h a n v k hk (by omega)]
  simp only [BitVec.getLsbD_setWidth, hk, decide_true, Bool.true_and]

theorem Memory.toNat_readLE_writeLE {m : Memory} (h : m.wf = true) (a : Word) {n : Nat} (hn : n ≤ 8) (v : Word) :
    ((m.writeLE a n v).readLE a n).toNat = v.toNat % 2 ^ (8 * n) := by
  have fits : v.toNat % 2 ^ (8 * n) < 2 ^ 64 :=
    (Nat.mod_lt _ (Nat.two_pow_pos _)).trans_le (Nat.pow_le_pow_right (by omega) (by omega))
  rw [Memory.readLE_writeLE h a hn, BitVec.toNat_setWidth, BitVec.toNat_setWidth, Nat.mod_eq_of_lt fits]

/-- Settles O60: the laws of `writeLE` hold for every size up to 8, at every address. -/
theorem storeThenRead : Obligations.StoreThenRead := by
  intro m addr x n hm hn
  have size : n ≤ 8 := by omega
  exact ⟨Memory.wf_writeLE hm addr n x, Memory.toNat_readLE_writeLE hm addr size x,
    fun a outside => Memory.get_writeLE_other hm addr n x a outside⟩

end Sys2Proof.Machine
end

section
/-! SUPPORT. A quiet answer, one of the five of `Answer.Quiet`, says that the command neither stored nor, `ACTIVITY` apart,
wrote the shared context (R70, R73, R110, R249). Deliveries and exceptions may do both, but never come to a quiet answer
(`Loud`); everything else that a rule does leaves the bytes and the context alone (`Quiet`). -/

namespace Sys2Proof.Machine

variable {α β : Type} {i : Instr}

/-- The answers that no delivery and no exception comes to (R110): `OK`, `DENY`, `HALTED`, `KILLED` and `SMM_ENTRY`. -/
def Answer.Quiet (a : Answer) : Prop :=
  a.kind = 0#4 ∨ a.kind = 1#4 ∨ a.kind = 4#4 ∨ a.kind = 5#4 ∨ a.kind = 8#4

theorem Answer.not_quiet_delivered (v : Vector8) : ¬(Answer.delivered v).Quiet := by simp [Answer.Quiet, Answer.kind]
theorem Answer.not_quiet_vmexit : ¬Answer.vmexit.Quiet := by simp [Answer.Quiet, Answer.kind]
theorem Answer.not_quiet_reset : ¬Answer.reset.Quiet := by simp [Answer.Quiet, Answer.kind]
theorem Answer.not_quiet_shutdown : ¬Answer.shutdown.Quiet := by simp [Answer.Quiet, Answer.kind]
theorem Answer.not_quiet_taskSw (v : Vector8) (t : Half) : ¬(Answer.taskSw v t).Quiet := by
  simp [Answer.Quiet, Answer.kind]
theorem Answer.not_quiet_abort : ¬Answer.abort.Quiet := by simp [Answer.Quiet, Answer.kind]

/-! ### Deliveries and exceptions never answer quietly -/

/-- The exit gives no quiet answer. -/
def Stop.Loud (x : Stop) : Prop := ∀ a, x = .done a → ¬a.Quiet

/-- The command may do anything to the state, but gives no quiet answer while it runs. -/
def Loud (m : M α) : Prop := Spec (fun _ _ => True) (fun _ _ x => x.Loud) m

theorem Stop.loud_done {a : Answer} (ha : ¬a.Quiet) : (Stop.done a).Loud := by
  rintro _ ⟨⟩
  exact ha

theorem Stop.loud_raise (v : Vector8) (ec : Half) : (Stop.raise v ec).Loud := nofun

theorem loud_exceptionSteps : ExceptionSteps (fun _ _ => True) (fun _ _ x => x.Loud) where
  refl _ := trivial
  trans _ _ := trivial
  pre _ h := h
  hist _ _ := trivial
  port _ := trivial
  mem _ _ _ _ := trivial
  cr2 _ _ := trivial
  ctx _ _ _ := trivial
  sched _ := trivial
  exc _ _ _ := trivial
  raise _ v ec _ := Stop.loud_raise v ec
  abort _ _ := Stop.loud_done Answer.not_quiet_abort
  taskSw _ v t _ _ _ := Stop.loud_done (Answer.not_quiet_taskSw v t)
  refuse _ _ := nofun
  caught _ _ _ _ _ := trivial
  lastType _ _ := trivial
  commit _ := trivial
  vmexit _ _ := Stop.loud_done Answer.not_quiet_vmexit
  tripleReset _ _ := Stop.loud_done Answer.not_quiet_reset
  shutDown _ _ := Stop.loud_done Answer.not_quiet_shutdown
  depth _ := nofun

namespace Loud

theorem andThen {m : M α} {f : α → M β} (hm : Loud m) (hf : ∀ a, Loud (f a)) : Loud (m >>= f) :=
  Spec.bind loud_exceptionSteps.toChain hm hf

theorem skip (a : α) : Loud (pure a : M α) := Spec.pure loud_exceptionSteps.toChain a

theorem read : Loud get := Spec.get loud_exceptionSteps.toChain

theorem write (f : State → State) : Loud (modify f) := Spec.modify fun _ => trivial

theorem abortIf (c : Bool) (r : AbortReason) : Loud (abortIf c r) := loud_exceptionSteps.abortIf

theorem askPlain (q : PlainQuery) : Loud (askPlain q) := loud_exceptionSteps.askPlain q

theorem askIfException (v : Vector8) (ec : Half) (p : Bool) (type : BitVec 3) :
    Loud (askIfException v ec p type) :=
  Spec.ite (fun _ => loud_exceptionSteps.askExc _ _ _ _) fun _ => skip ()

theorem deliver (v : Vector8) (type : BitVec 3) (p : Bool) (ec : Half) : Loud (deliver v type p ec) :=
  loud_exceptionSteps.deliver v type p ec

theorem exception (n : Nat) (v : Vector8) (ec : Half) : Loud (exception n v ec) :=
  loud_exceptionSteps.exception n v ec

theorem intCommand (v : Vector8) (type : BitVec 3) (p : Bool) (ec : Half) : Loud (intCommand v type p ec) :=
  (abortIf _ _).andThen fun _ => (askIfException _ _ _ _).andThen fun _ => read.andThen fun _ =>
    (deliver _ _ _ _).andThen fun _ => skip _

/-! The interrupts of `BOUNDARY` (R241, R243, R244). -/

theorem deliverAsync (v : Vector8) (type : BitVec 3) : Loud (deliverAsync v type) :=
  (deliver _ _ _ _).andThen fun _ => (write _).andThen fun _ => skip _

theorem takeNmi : Loud takeNmi :=
  (write _).andThen fun _ => (askPlain _).andThen fun _ => (write _).andThen fun _ => deliverAsync _ _

theorem takeExternal (v : Vector8) : Loud (takeExternal v) :=
  (write _).andThen fun _ => (askPlain _).andThen fun _ => (write _).andThen fun _ => deliverAsync _ _

theorem takeVirtual : Loud takeVirtual :=
  (write _).andThen fun _ => read.andThen fun _ => (write _).andThen fun _ => deliverAsync _ _

theorem takeLapic : Loud takeLapic := (write _).andThen fun _ => read.andThen fun _ => takeExternal _

theorem takePic : Loud takePic := (write _).andThen fun _ => read.andThen fun _ => takeExternal _

theorem takeMaskable : Loud takeMaskable :=
  read.andThen fun _ => Spec.ite (fun _ => takeVirtual) fun _ => Spec.ite (fun _ => takeLapic) fun _ => takePic

theorem takeSvmVirq : Loud takeSvmVirq :=
  (write _).andThen fun _ => read.andThen fun _ => (write _).andThen fun _ => (askPlain _).andThen fun _ =>
    deliverAsync _ _

end Loud

/-- An exception that is delivered is answered `DELIVERED` (R262). -/
theorem exception_endsIn {P : Answer → Prop} (hP : ∀ v, P (.delivered v)) (n : Nat) (v : Vector8) (ec : Half) :
    EndsIn P (exception n v ec) := by
  induction n generalizing v ec with
  | zero => exact .error fun s => ⟨_, s, rfl⟩
  | succ n ih =>
    refine .bind fun st => ?_
    cases st with
    | escalate => exact ih _ _
    | deliver p ec' =>
      exact .onRaise (Q := fun _ => True) (fun _ _ _ _ => trivial) (fun _ _ => .bind fun _ => .pure (hP v)) ih

/-- Whatever is raised, taking it gives no quiet answer (R110, R262). -/
theorem not_quiet_of_exception {n : Nat} {v : Vector8} {ec : Half} {s t : State}
    (e : outcomeOf (exception n v ec s) = .next t) : ∃ (a : Answer) (s' : State), t = s'.respond a ∧ ¬a.Quiet := by
  have loud := Loud.exception n v ec
  have ends := exception_endsIn (P := fun a => ¬a.Quiet) Answer.not_quiet_delivered n v ec
  cases e1 : exception n v ec s with
  | ok a s' =>
    rw [e1] at e
    cases e
    exact ⟨a, s', rfl, ends s a s' e1⟩
  | error x s' =>
    rw [e1] at e
    cases x with
    | done a =>
      cases e
      exact ⟨a, s', rfl, loud.error e1 a rfl⟩
    | raise w ec' => cases e
    | refuse r => cases e
    | depth => cases e

/-! An interrupt that is delivered is answered with its vector (R242). -/

theorem deliverAsync_endsIn (v : Vector8) (type : BitVec 3) : EndsIn (· ≠ none) (deliverAsync v type) :=
  .bind fun _ => .bind fun _ => .pure nofun

theorem takeNmi_endsIn : EndsIn (· ≠ none) takeNmi :=
  .bind fun _ => .bind fun _ => .bind fun _ => deliverAsync_endsIn _ _

theorem takeExternal_endsIn (v : Vector8) : EndsIn (· ≠ none) (takeExternal v) :=
  .bind fun _ => .bind fun _ => .bind fun _ => deliverAsync_endsIn _ _

theorem takeMaskable_endsIn : EndsIn (· ≠ none) takeMaskable := by
  refine .bind fun s => ?_
  split
  · exact .bind fun _ => .bind fun _ => .bind fun _ => deliverAsync_endsIn _ _
  · split
    · exact .bind fun _ => .bind fun _ => takeExternal_endsIn _
    · exact .bind fun _ => .bind fun _ => takeExternal_endsIn _

theorem takeSvmVirq_endsIn : EndsIn (· ≠ none) takeSvmVirq :=
  .bind fun _ => .bind fun _ => .bind fun _ => .bind fun _ => deliverAsync_endsIn _ _

/-! ### What leaves the bytes and the context alone -/

/-- Both memories are the same, and the context is too unless the command is `ACTIVITY`. -/
def undisturbed (i : Instr) (s s' : State) : Prop :=
  s'.mem = s.mem ∧ s'.phys = s.phys ∧ ((∀ c, i ≠ .activity c) → s'.ctx = s.ctx)

/-- A quiet answer is given in a state that is undisturbed. -/
def quietExit (i : Instr) (s s' : State) (x : Stop) : Prop := ∀ a, x = .done a → a.Quiet → undisturbed i s s'

/-- The command leaves the bytes and the context alone where it ends normally or with a quiet answer. -/
def Quiet (i : Instr) (m : M α) : Prop := Spec (undisturbed i) (quietExit i) m

theorem undisturbed.refl (s : State) : undisturbed i s s := ⟨rfl, rfl, fun _ => rfl⟩

theorem undisturbed.trans {a b c : State} : undisturbed i a b → undisturbed i b c → undisturbed i a c := by
  rintro ⟨mem1, phys1, ctx1⟩ ⟨mem2, phys2, ctx2⟩
  exact ⟨mem2.trans mem1, phys2.trans phys1, fun hi => (ctx2 hi).trans (ctx1 hi)⟩

theorem undisturbed_chain : Chain (undisturbed i) (quietExit i) where
  refl := undisturbed.refl
  trans := undisturbed.trans
  pre h1 h2 a e ha := h1.trans (h2 a e ha)

theorem Stop.Loud.quietExit {x : Stop} (h : x.Loud) (s s' : State) : quietExit i s s' x :=
  fun a e ha => absurd ha (h a e)

namespace Quiet

/-! ### The constructs of a rule (R7) -/

theorem andThen {m : M α} {f : α → M β} (hm : Quiet i m) (hf : ∀ a, Quiet i (f a)) : Quiet i (m >>= f) :=
  Spec.bind undisturbed_chain hm hf

theorem reading {f : State → M β} (hf : ∀ s, Quiet i (f s)) : Quiet i (get >>= f) :=
  Spec.bind undisturbed_chain (Spec.get undisturbed_chain) hf

theorem skip (a : α) : Quiet i (pure a : M α) := Spec.pure undisturbed_chain a

theorem when {c : Prop} [Decidable c] {m : M Unit} (hm : Quiet i m) : Quiet i (if c then m else pure ()) :=
  Spec.ite (fun _ => hm) fun _ => skip ()

/-- A command that always leaves its rule, and with a quiet answer only in the state it began in. -/
theorem leaving {m : M α} (hm : ∀ s, ∃ x s', m s = .error x s' ∧ quietExit i s s' x) : Quiet i m := by
  intro s
  obtain ⟨x, s', e, hx⟩ := hm s
  rw [e]
  exact hx

/-- A write to another field of the state. -/
theorem write (f : State → State) (mem : ∀ s, (f s).mem = s.mem := by exact fun _ => rfl)
    (phys : ∀ s, (f s).phys = s.phys := by exact fun _ => rfl)
    (ctx : ∀ s, (f s).ctx = s.ctx := by exact fun _ => rfl) : Quiet i (modify f) :=
  Spec.modify fun s => ⟨mem s, phys s, fun _ => ctx s⟩

theorem raise (v : Vector8) (ec : Half) : Quiet i (raise v ec : M α) :=
  leaving fun s => ⟨_, s, rfl, (Stop.loud_raise v ec).quietExit _ _⟩

theorem raiseIf (c : Bool) (v : Vector8) (ec : Half) : Quiet i (raiseIf c v ec) := when (raise v ec)

theorem finish (a : Answer) : Quiet i (finish a : M α) := leaving fun s => ⟨_, s, rfl, fun _ _ _ => .refl s⟩

theorem abort (r : AbortReason) : Quiet i (abort r : M α) :=
  leaving fun s => ⟨_, s.abortedBy r, rfl, (Stop.loud_done Answer.not_quiet_abort).quietExit _ _⟩

theorem abortIf (c : Bool) (r : AbortReason) : Quiet i (abortIf c r) := when (abort r)

theorem vmExit (e : ExitInfo) : Quiet i (vmExit e : M α) :=
  leaving fun s => ⟨_, s.exited e, rfl, (Stop.loud_done Answer.not_quiet_vmexit).quietExit _ _⟩

theorem emit (e : Event) : Quiet i (emit e) := write _

theorem emitIf (c : Bool) (e : Event) : Quiet i (emitIf c e) := when (emit e)

theorem emitMode : Quiet i emitMode := reading fun _ => emit _

theorem modifyRegs (f : ControlRegs → ControlRegs) : Quiet i (modifyRegs f) := write _

theorem modifySched (f : Sched → Sched) : Quiet i (modifySched f) := write _

theorem modifyExc (f : ExcState → ExcState) : Quiet i (modifyExc f) := write _

/-! ### The memory port: reads (R72, R74) -/

theorem portAccess (a : Word) : Quiet i (portAccess a) :=
  andThen (fun _ => ⟨rfl, rfl, fun _ => rfl⟩) fun
    | none => skip _
    | some _ => (modifyRegs _).andThen fun _ => raise _ _

theorem memRead (a : Word) (n : Nat) (acc : Acc) : Quiet i (memRead a n acc) :=
  (emit _).andThen fun _ => (portAccess a).andThen fun _ => reading fun _ => skip _

theorem physRead (a : Word) : Quiet i (physRead a) := (emit _).andThen fun _ => reading fun _ => skip _

/-! ### The intercept layer and the privilege check (R130, R153, R205 to R212) -/

theorem obeyPlain : ∀ a : Option ExitInfo, Quiet i (obeyPlain a)
  | none => skip _
  | some e => vmExit e

theorem askPlain (q : PlainQuery) : Quiet i (askPlain q) := reading fun _ => obeyPlain _

theorem obeyWrite : ∀ a : RegAnswer, Quiet i (obeyWrite a)
  | .pass => skip _
  | .exit e => vmExit e
  | .handled _ _ => finish _

theorem obeyRead (cur : Word) : ∀ a : RegAnswer, Quiet i (obeyRead a cur)
  | .pass => skip _
  | .exit e => vmExit e
  | .handled _ _ => skip _

theorem requireCpl0 : Quiet i requireCpl0 := reading fun _ => raiseIf _ _ _

/-- The first stages of a write: the privilege check, then the answer of the layer (R130). -/
theorem privileged {q : State → RegAnswer} {f : State → Unit → M β} (hf : ∀ s, Quiet i (f s ())) :
    Quiet i (Machine.requireCpl0 >>= fun _ => get >>= fun s => Machine.obeyWrite (q s) >>= f s) :=
  requireCpl0.andThen fun _ => reading fun s => (obeyWrite _).andThen fun _ => hf s

/-! ### The control registers (R131 to R153) -/

theorem readPdptes (base : Word) (left k : Nat) : Quiet i (readPdptes base left k) := by
  induction left generalizing k with
  | zero => exact skip _
  | succ left ih =>
    exact (physRead _).andThen fun _ => reading fun _ =>
      Spec.ite (fun _ => skip _) fun _ => (ih _).andThen fun _ => skip _

theorem loadPdptes (es : Option (List Word)) : Quiet i (loadPdptes es) := by
  unfold Machine.loadPdptes
  split
  · exact emit _
  · exact raise _ _

theorem pdptesIf (b : Bool) (c : Word) : Quiet i (pdptesIf b c) :=
  when ((readPdptes _ _ _).andThen fun _ => loadPdptes _)

theorem longEntry : Quiet i longEntry :=
  reading fun _ => when <| (raiseIf _ _ _).andThen fun _ => (raiseIf _ _ _).andThen fun _ =>
    (raiseIf _ _ _).andThen fun _ => modifyRegs _

theorem longExit : Quiet i longExit :=
  reading fun _ => (raiseIf _ _ _).andThen fun _ => when <| (raiseIf _ _ _).andThen fun _ => modifyRegs _

theorem pgTransition (old new : Bool) : Quiet i (pgTransition old new) :=
  Spec.ite (fun _ => longEntry) fun _ => when longExit

theorem wrcr0 (v : Word) : Quiet i (wrcr0 v) :=
  privileged fun _ => (raiseIf _ _ _).andThen fun _ => (pgTransition _ _).andThen fun _ =>
    (reading fun _ => pdptesIf _ _).andThen fun _ => (modifyRegs _).andThen fun _ =>
    ((emitIf _ _).andThen fun _ => emitMode).andThen fun _ => skip _

theorem wrcr2 (v : Word) : Quiet i (wrcr2 v) := privileged fun _ => (modifyRegs _).andThen fun _ => skip _

theorem requireLegalCr3 (v : Word) : Quiet i (requireLegalCr3 v) :=
  reading fun _ => Spec.ite (fun _ => raiseIf _ _ _) fun _ => abortIf _ _

theorem wrcr3 (v : Word) : Quiet i (wrcr3 v) :=
  privileged fun _ => (requireLegalCr3 _).andThen fun _ => (pdptesIf _ _).andThen fun _ =>
    (modifyRegs _).andThen fun _ => (reading fun _ => emitIf _ _).andThen fun _ => skip _

theorem wrcr4 (v : Word) : Quiet i (wrcr4 v) :=
  privileged fun _ => (raiseIf _ _ _).andThen fun _ => (pdptesIf _ _).andThen fun _ => (modifyRegs _).andThen fun _ =>
    (emitIf _ _).andThen fun _ => emitMode.andThen fun _ => skip _

theorem setVmxVTpr (set : Bool) : Quiet i (modify (setVmxVTpr set)) := by
  refine Spec.modify fun s => ?_
  unfold Machine.setVmxVTpr
  split
  · exact ⟨rfl, rfl, fun _ => rfl⟩
  · exact .refl s

theorem obeyCr8Write : ∀ a : RegAnswer, Quiet i (obeyCr8Write a)
  | .pass => skip _
  | .exit e => vmExit e
  | .handled _ set => (setVmxVTpr set).andThen fun _ => finish _

theorem setTaskPriority (t : BitVec 8) : Quiet i (setTaskPriority t) :=
  reading fun _ => Spec.ite (fun _ => (write _).andThen fun _ => emit _) fun _ => (write _).andThen fun _ => emit _

theorem wrcr8 (v : Word) : Quiet i (wrcr8 v) :=
  reading fun _ => (raiseIf _ _ _).andThen fun _ => requireCpl0.andThen fun _ => (obeyCr8Write _).andThen fun _ =>
    (raiseIf _ _ _).andThen fun _ => (setTaskPriority _).andThen fun _ => skip _

theorem rdcr (n : CrNum) : Quiet i (rdcr n) := requireCpl0.andThen fun _ => reading fun _ => obeyRead _ _

theorem rdcr8 : Quiet i rdcr8 := reading fun _ => (raiseIf _ _ _).andThen fun _ => rdcr _

/-! ### The debug registers (R173 to R179) -/

theorem generalDetect : Quiet i generalDetect := reading fun _ => when <| (modifySched _).andThen fun _ => raise _ _

theorem drAccess (n : DrNum) (dir : Dir) : Quiet i (drAccess n dir) :=
  generalDetect.andThen fun _ => requireCpl0.andThen fun _ => askPlain _

theorem requireAlias : Quiet i requireAlias := reading fun _ => raiseIf _ _ _

theorem wrdrAddr (n : DrNum) (v : Word) : Quiet i (wrdrAddr n v) :=
  (drAccess _ _).andThen fun _ => reading fun _ => (raiseIf _ _ _).andThen fun _ => (modifyRegs _).andThen fun _ =>
    skip _

theorem wrdrStatus (v : Word) : Quiet i (wrdrStatus v) :=
  (drAccess _ _).andThen fun _ => (raiseIf _ _ _).andThen fun _ => (write _).andThen fun _ => skip _

theorem wrdrControl (v : Word) : Quiet i (wrdrControl v) :=
  (drAccess _ _).andThen fun _ => (raiseIf _ _ _).andThen fun _ => (write _).andThen fun _ => skip _

theorem rddr (n : DrNum) : Quiet i (rddr n) := (drAccess _ _).andThen fun _ => reading fun _ => skip _

/-! ### EFER, XCR0 and IA32_XSS (R160 to R171) -/

theorem wrefer (v : Word) : Quiet i (wrefer v) :=
  privileged fun _ => (raiseIf _ _ _).andThen fun _ => (raiseIf _ _ _).andThen fun _ => (modifyRegs _).andThen fun _ =>
    skip _

theorem rdefer : Quiet i rdefer := requireCpl0.andThen fun _ => reading fun _ => obeyRead _ _

theorem requireOsxsave : Quiet i requireOsxsave := reading fun _ => raiseIf _ _ _

theorem wrxcr (k : BitVec 8) (v : Word) : Quiet i (wrxcr k v) :=
  requireOsxsave.andThen fun _ => privileged fun _ => (raiseIf _ _ _).andThen fun _ => (raiseIf _ _ _).andThen fun _ =>
    (modifyRegs _).andThen fun _ => emitMode.andThen fun _ => skip _

theorem rdxcr (k : BitVec 8) : Quiet i (rdxcr k) :=
  requireOsxsave.andThen fun _ => (raiseIf _ _ _).andThen fun _ => reading fun _ => skip _

theorem wrxss (v : Word) : Quiet i (wrxss v) :=
  privileged fun _ => (raiseIf _ _ _).andThen fun _ => (raiseIf _ _ _).andThen fun _ => (modifyRegs _).andThen fun _ =>
    skip _

theorem rdxss : Quiet i rdxss :=
  requireCpl0.andThen fun _ => reading fun _ => (raiseIf _ _ _).andThen fun _ => obeyRead _ _

/-! ### The I/O permission check (R190 to R200) -/

theorem bitmapWord (port : Half) (width : BitVec 8) : Quiet i (bitmapWord port width) :=
  reading fun _ => (memRead _ _ _).andThen fun _ => Spec.ite (fun _ => skip _) fun _ =>
    (memRead _ _ _).andThen fun _ => skip _

theorem bitmapGrants (port : Half) (width : BitVec 8) : Quiet i (bitmapGrants port width) :=
  reading fun _ => Spec.ite (fun _ => skip _) fun _ => Spec.ite (fun _ => bitmapWord _ _) fun _ => skip _

theorem denyUnless (granted : Bool) : Quiet i (denyUnless granted) := Spec.ite (fun _ => skip _) fun _ => finish _

theorem chkio (width : BitVec 8) (out rep : Bool) (port : Half) : Quiet i (chkio width out rep port) :=
  (abortIf _ _).andThen fun _ => (bitmapGrants _ _).andThen fun _ => (denyUnless _).andThen fun _ =>
    (askPlain _).andThen fun _ => (write _).andThen fun _ => skip _

/-! ### The scheduler's feeders and the snapshots (R245 to R249, R260, R276 to R278) -/

theorem signal (e : BitVec 4) (level : Bool) : Quiet i (signal e level) :=
  (abortIf _ _).andThen fun _ => (modifySched _).andThen fun _ => skip _

theorem evmask (e : BitVec 4) (mask : Bool) : Quiet i (evmask e mask) := (modifySched _).andThen fun _ => skip _

theorem inhibit (m : BitVec 2) : Quiet i (inhibit m) := (modifySched _).andThen fun _ => skip _

theorem dbgtrap (b : Half) : Quiet i (dbgtrap b) :=
  (abortIf _ _).andThen fun _ => (modifySched _).andThen fun _ => skip _

/-- `ACTIVITY` writes the context, which the relation allows this command alone. -/
theorem activity {code : BitVec 3} (hi : i = .activity code) : Quiet i (activity code) := by
  unfold Machine.activity
  cases activityOf code with
  | none => exact abort _
  | some a =>
    exact (modifySched _).andThen fun _ =>
      andThen (Spec.modify fun _ => ⟨rfl, rfl, fun h => absurd hi (h code)⟩) fun _ => skip _

theorem raiseCommand (v : Vector8) (ec : Half) (addr : Word) : Quiet i (raiseCommand v ec addr) :=
  (when (modifyRegs _)).andThen fun _ => raise _ _

theorem instrStart : Quiet i instrStart := (write _).andThen fun _ => skip _

theorem specRsp : Quiet i specRsp := (write _).andThen fun _ => skip _

theorem commitRsp : Quiet i commitRsp := (modifyExc _).andThen fun _ => skip _

/-! ### The steps of `BOUNDARY` before the interrupts (R222 to R237) -/

theorem clearPending (e : Nat) : Quiet i (clearPending e) := modifySched _

theorem stepKill : Quiet i stepKill := reading fun _ => when (finish _)

theorem haltedFirst : Quiet i haltedFirst :=
  reading fun _ => when <| stepKill.andThen fun _ => reading fun _ =>
    Spec.ite (fun _ => modifySched _) fun _ => finish _

theorem stepTaskTrap : Quiet i stepTaskTrap := reading fun _ => raiseIf _ _ _

theorem apicTrap (e : Nat) : Quiet i (apicTrap e) :=
  reading fun _ => when <| (clearPending _).andThen fun _ => obeyPlain _

theorem stepApic : Quiet i stepApic :=
  (apicTrap _).andThen fun _ => (apicTrap _).andThen fun _ => apicTrap _

theorem stepSmi : Quiet i stepSmi :=
  reading fun _ => when <| (clearPending _).andThen fun _ => (askPlain _).andThen fun _ => (emit _).andThen fun _ =>
    finish _

/-- The reset of an INIT writes the context, and is answered `RESET`. -/
theorem initReset : Quiet i (modify resetState >>= fun _ => Machine.emit (.reset .init) >>= fun _ =>
    (Machine.finish .reset : M Unit)) :=
  leaving fun s => ⟨_, (resetState s).setHist (s.hist ++ [.reset .init]), rfl,
    (Stop.loud_done Answer.not_quiet_reset).quietExit _ _⟩

theorem stepInit : Quiet i stepInit :=
  reading fun _ => when <| (clearPending _).andThen fun _ => (askPlain _).andThen fun _ => initReset

theorem stepMtf : Quiet i stepMtf := reading fun _ => when <| (clearPending _).andThen fun _ => vmExit _

theorem stepDebug : Quiet i stepDebug := reading fun _ => Spec.ite (fun _ => modifySched _) fun _ => raiseIf _ _ _

theorem takePreempt : Quiet i takePreempt := (clearPending _).andThen fun _ => vmExit _

theorem takeDma : Quiet i takeDma := (clearPending _).andThen fun _ => (emit _).andThen fun _ => skip _

theorem armSingleStep : Quiet i (modify armSingleStep) := by
  refine Spec.modify fun s => ?_
  unfold Machine.armSingleStep
  split
  · exact ⟨rfl, rfl, fun _ => rfl⟩
  · exact .refl s

theorem endPass : Quiet i (modify endPass) := write _

end Quiet

/-! ### Rules that may deliver -/

/-- As `Quiet`, with a condition on a normal end too: one with a value of `P` leaves the bytes and the context alone. -/
def QuietIn (i : Instr) (P : α → Prop) (m : M α) : Prop :=
  ∀ s, match m s with
    | .ok a s' => P a → undisturbed i s s'
    | .error x s' => quietExit i s s' x

namespace QuietIn

variable {P : α → Prop}

theorem of_quiet {m : M α} (hm : Quiet i m) : QuietIn i P m := by
  intro s
  have h := hm s
  cases e : m s with
  | ok a s' => rw [e] at h; exact fun _ => h
  | error x s' => rw [e] at h; exact h

theorem of_loud {m : M α} (hm : Loud m) (ends : EndsIn (fun a => ¬P a) m) : QuietIn i P m := by
  intro s
  cases e : m s with
  | ok a s' => exact fun ha => absurd ha (ends s a s' e)
  | error x s' => exact Stop.Loud.quietExit (hm.error e) _ _

theorem ite {c : Prop} [Decidable c] {m n : M α} (hm : QuietIn i P m) (hn : QuietIn i P n) :
    QuietIn i P (if c then m else n) := by
  split
  · exact hm
  · exact hn

/-- Where the first part ends outside `P`, the rest has to end outside `Q`. -/
theorem bind {Q : β → Prop} {m : M α} {f : α → M β} (hm : QuietIn i P m) (hf : ∀ a, P a → QuietIn i Q (f a))
    (loud : ∀ a, ¬P a → Loud (f a) ∧ EndsIn (fun b => ¬Q b) (f a)) : QuietIn i Q (m >>= f) := by
  intro s
  have h1 := hm s
  rw [run_bind]
  cases e : m s with
  | error x s' => rw [e] at h1; exact h1
  | ok a s' =>
    rw [e] at h1
    simp only
    by_cases ha : P a
    · have h2 := hf a ha s'
      cases e2 : f a s' with
      | ok b s'' => rw [e2] at h2; exact fun hb => (h1 ha).trans (h2 hb)
      | error x s'' => rw [e2] at h2; exact undisturbed_chain.pre (h1 ha) h2
    · obtain ⟨hl, ends⟩ := loud a ha
      cases e2 : f a s' with
      | ok b s'' => exact fun hb => absurd hb (ends s' b s'' e2)
      | error x s'' => exact Stop.Loud.quietExit (hl.error e2) _ _

theorem after {m : M β} {f : β → M α} (hm : Quiet i m) (hf : ∀ b, QuietIn i P (f b)) : QuietIn i P (m >>= f) :=
  bind (P := fun _ => True) (of_quiet hm) (fun b _ => hf b) fun _ never => absurd trivial never

end QuietIn

/-- Where no vector comes out of step 6, nothing was delivered (R238). -/
theorem stepInterrupts_quiet : QuietIn i (· = none) stepInterrupts :=
  .after (Quiet.reading .skip) fun _ => .ite (.of_quiet (.skip _)) <|
    .ite (.of_quiet .takePreempt) <| .ite (.of_quiet (.vmExit _)) <| .ite (.of_loud .takeNmi takeNmi_endsIn) <|
    .ite (.of_quiet (.vmExit _)) <| .ite (.of_loud .takeMaskable takeMaskable_endsIn) <|
    .ite (.of_loud .takeSvmVirq takeSvmVirq_endsIn) <| .ite (.of_quiet .takeDma) (.of_quiet (.skip _))

theorem not_quiet_passAnswer {d : Option Vector8} (hd : d ≠ none) : ¬(passAnswer d).Quiet := by
  cases d with
  | none => exact absurd rfl hd
  | some v => exact Answer.not_quiet_delivered v

theorem boundary_quiet : QuietIn i Answer.Quiet boundary :=
  .after .haltedFirst fun _ => .after .stepKill fun _ => .after .stepTaskTrap fun _ => .after .stepApic fun _ =>
    .after .stepSmi fun _ => .after .stepInit fun _ => .after .stepMtf fun _ => .after .stepDebug fun _ =>
    .bind stepInterrupts_quiet
      (fun _ _ => .of_quiet <| Quiet.armSingleStep.andThen fun _ => Quiet.endPass.andThen fun _ => .skip _)
      fun _ hd => ⟨(Loud.write _).andThen fun _ => (Loud.write _).andThen fun _ => .skip _,
        .bind fun _ => .bind fun _ => .pure (not_quiet_passAnswer hd)⟩

theorem intCommand_quiet (v : Vector8) (type : BitVec 3) (p : Bool) (ec : Half) :
    QuietIn i Answer.Quiet (intCommand v type p ec) :=
  .of_loud (.intCommand v type p ec) <|
    .bind fun _ => .bind fun _ => .bind fun _ => .bind fun _ => .pure (Answer.not_quiet_delivered v)

/-! ### Every row -/

/-- A rule that ends with a quiet answer has left the bytes and the context alone. -/
theorem body_quiet (i : Instr) : QuietIn i Answer.Quiet (body i) := by
  cases i with
  | boundary => exact boundary_quiet
  | int v type pushError ec => exact intCommand_quiet v type pushError ec
  | wrcr0 v => exact .of_quiet (.wrcr0 v)
  | wrcr2 v => exact .of_quiet (.wrcr2 v)
  | wrcr3 v => exact .of_quiet (.wrcr3 v)
  | wrcr4 v => exact .of_quiet (.wrcr4 v)
  | wrcr8 v => exact .of_quiet (.wrcr8 v)
  | wrcr1Ud | wrcr5Ud | wrcr6_7Ud _ | wrcr9Ud | wrcr10_11Ud _ | wrcr12_15Ud _ => exact .of_quiet (.raise _ _)
  | rdcr0 | rdcr2 | rdcr3 | rdcr4 => exact .of_quiet (.rdcr _)
  | rdcr8 => exact .of_quiet .rdcr8
  | rdcr1Ud | rdcr5Ud | rdcr6_7Ud _ | rdcr9Ud | rdcr10_11Ud _ | rdcr12_15Ud _ => exact .of_quiet (.raise _ _)
  | wrdr0 v | wrdr1 v | wrdr2 v | wrdr3 v => exact .of_quiet (.wrdrAddr _ v)
  | wrdr4 v => exact .after .requireAlias fun _ => .of_quiet (.wrdrStatus v)
  | wrdr5 v => exact .after .requireAlias fun _ => .of_quiet (.wrdrControl v)
  | wrdr6 v => exact .of_quiet (.wrdrStatus v)
  | wrdr7 v => exact .of_quiet (.wrdrControl v)
  | rddr0 | rddr1 | rddr2 | rddr3 | rddr6 | rddr7 => exact .of_quiet (.rddr _)
  | rddr4 | rddr5 => exact .after .requireAlias fun _ => .of_quiet (.rddr _)
  | wrdr8_15Ud _ | rddr8_15Ud _ => exact .of_quiet (.raise _ _)
  | wrefer v => exact .of_quiet (.wrefer v)
  | rdefer => exact .of_quiet .rdefer
  | wrxcr k v => exact .of_quiet (.wrxcr k v)
  | rdxcr k => exact .of_quiet (.rdxcr k)
  | wrxss v => exact .of_quiet (.wrxss v)
  | rdxss => exact .of_quiet .rdxss
  | chkio width out rep port => exact .of_quiet (.chkio width out rep port)
  | inhibit m => exact .of_quiet (.inhibit m)
  | signal e level => exact .of_quiet (.signal e level)
  | evmask e mask => exact .of_quiet (.evmask e mask)
  | dbgtrap b => exact .of_quiet (.dbgtrap b)
  | activity a => exact .of_quiet (.activity rfl)
  | raise v ec addr => exact .of_quiet (.raiseCommand v ec addr)
  | instrStart => exact .of_quiet .instrStart
  | specRsp => exact .of_quiet .specRsp
  | commitRsp => exact .of_quiet .commitRsp

/-- Whatever a command answers, a quiet answer is given in a state that is undisturbed: a rule that raises gives none. -/
theorem exec_quiet {s t : State} (e : exec i s = .next t) :
    ∃ (a : Answer) (s' : State), t = s'.respond a ∧ (a.Quiet → undisturbed i s s') := by
  cases live : s.aborted with
  | true =>
    rw [exec_aborted i live] at e
    cases e
    exact ⟨.abort, s, rfl, fun _ => .refl s⟩
  | false =>
    rw [exec_eq_runCommand] at e
    have rule := body_quiet i s
    cases e1 : body i s with
    | ok a s' =>
      rw [e1] at rule
      rw [runCommand_ok live e1] at e
      cases e
      exact ⟨a, s', rfl, rule⟩
    | error x s' =>
      rw [e1] at rule
      cases x with
      | done a =>
        rw [runCommand_done live e1] at e
        cases e
        exact ⟨a, s', rfl, rule a rfl⟩
      | raise v ec =>
        rw [runCommand_raise live e1] at e
        obtain ⟨a, s'', rfl, loud⟩ := not_quiet_of_exception e
        exact ⟨a, s'', rfl, fun quiet => absurd quiet loud⟩
      | refuse r => simp [runCommand, live, onRaise, e1] at e
      | depth => simp [runCommand, live, onRaise, e1] at e

/-- Settles O16: a quiet answer is given neither by a delivery nor by an exception, and no other step of a command stores
or, `ACTIVITY` apart, writes the context. -/
theorem onlyDeliveriesStore : Obligations.OnlyDeliveriesStore := by
  intro i s t e hk
  obtain ⟨a, s', rfl, h⟩ := exec_quiet e
  rw [State.kind_respond] at hk
  obtain ⟨mem, phys, ctx⟩ := h hk
  exact ⟨fun k => congrArg (·.get k) mem, fun k => congrArg (·.get k) phys, ctx⟩

end Sys2Proof.Machine
end

section
/-! SUPPORT. The decoder and the encoder as inverses of each other (R100 to R106): what the decoder answers for a word
given by its fields, one equation for each `OP` that a proof below runs; when a row accepts its fields; and what the flags
of a byte are. A command whose `Z` is 0 is the word of its three other fields (`Command.cmd_eq_mkCmd`), so a word that
decodes is rebuilt field by field from the operands of its instruction. -/

namespace Sys2Proof

/-! ### The fields of a command -/

theorem Command.cmd_eq_mkCmd {c : Command} (hz : c.z = 0#8) : c.cmd = mkCmd c.op c.a c.f := by
  rw [mkCmd, ← hz]
  simp only [Command.op, Command.a, Command.f, Command.z]
  rw [BitVec.extractLsb'_append_extractLsb'_eq_extractLsb', BitVec.extractLsb'_append_extractLsb'_eq_extractLsb',
    BitVec.extractLsb'_append_extractLsb'_eq_extractLsb', BitVec.extractLsb'_eq_self] <;> rfl

/-- A 16-bit operand is read back from `OPA` (R101). -/
theorem low16_setWidth (x : Half) : (x.setWidth 64).extractLsb' 0 16 = x := by
  rw [BitVec.extractLsb'_setWidth_of_le (by decide), BitVec.extractLsb'_eq_self]

/-! ### The rows of the decoder (R103 to R106) -/

section
variable (a f : BitVec 8) (x y : Word)

theorem decode_wrcr : decode ⟨mkCmd 0x01#8 a f, x, y⟩ = decodeF0 f (decodeWrcr a x) := by simp [decode]
theorem decode_rdcr : decode ⟨mkCmd 0x02#8 a f, x, y⟩ = decodeF0 f (decodeRdcr a) := by simp [decode]
theorem decode_wrdr : decode ⟨mkCmd 0x03#8 a f, x, y⟩ = decodeF0 f (decodeWrdr a x) := by simp [decode]
theorem decode_rddr : decode ⟨mkCmd 0x04#8 a f, x, y⟩ = decodeF0 f (decodeRddr a) := by simp [decode]
theorem decode_wrefer : decode ⟨mkCmd 0x05#8 a f, x, y⟩ = decodeA0 a f 0#8 (.wrefer x) := by simp [decode]
theorem decode_wrxcr : decode ⟨mkCmd 0x07#8 a f, x, y⟩ = decodeF0 f (.ok (.wrxcr a x)) := by simp [decode]
theorem decode_rdxcr : decode ⟨mkCmd 0x08#8 a f, x, y⟩ = decodeF0 f (.ok (.rdxcr a)) := by simp [decode]
theorem decode_wrxss : decode ⟨mkCmd 0x09#8 a f, x, y⟩ = decodeA0 a f 0#8 (.wrxss x) := by simp [decode]

theorem decode_chkio : decode ⟨mkCmd 0x10#8 a f, x, y⟩
    = decodeAF a 0xFF#8 f 0x03#8 (.chkio a (f.getLsbD 0) (f.getLsbD 1) (x.extractLsb' 0 16)) := by
  simp [decode, Command.opaLow]

theorem decode_boundary : decode ⟨mkCmd 0x20#8 a f, x, y⟩ = decodeA0 a f 0#8 .boundary := by simp [decode]

theorem decode_signal : decode ⟨mkCmd 0x22#8 a f, x, y⟩
    = decodeAF a 0x0F#8 f 0x01#8 (.signal (a.extractLsb' 0 4) (f.getLsbD 0)) := by
  simp [decode]

theorem decode_dbgtrap : decode ⟨mkCmd 0x24#8 a f, x, y⟩ = decodeA0 a f 0#8 (.dbgtrap (x.extractLsb' 0 16)) := by
  simp [decode, Command.opaLow]

theorem decode_raise : decode ⟨mkCmd 0x30#8 a f, x, y⟩
    = decodeF0 f (.ok (.raise a (x.extractLsb' 0 16) (if a == 14#8 then y else 0#64))) := by
  simp [decode, Command.opaLow]

theorem decode_int : decode ⟨mkCmd 0x31#8 a f, x, y⟩
    = decodeAF a 0xFF#8 f 0x0F#8 (.int a (f.extractLsb' 0 3) (f.getLsbD 3) (x.extractLsb' 0 16)) := by
  simp [decode, Command.opaLow]

theorem decode_specRsp : decode ⟨mkCmd 0x41#8 a f, x, y⟩ = decodeA0 a f 0#8 .specRsp := by simp [decode]

end

/-! ### When a row accepts (R103) -/

theorem decodeF0_eq_ok {f : BitVec 8} {r : Except DecodeError Instr} {i : Instr} :
    decodeF0 f r = .ok i ↔ f = 0#8 ∧ r = .ok i := by
  unfold decodeF0
  split <;> simp_all

theorem decodeAF_eq_ok {a amask f fmask : BitVec 8} {i j : Instr} :
    decodeAF a amask f fmask j = .ok i ↔ a &&& ~~~amask = 0#8 ∧ f &&& ~~~fmask = 0#8 ∧ j = i := by
  unfold decodeAF
  split
  · simp_all
  · split <;> simp_all

theorem and_not_zero (x : BitVec 8) : x &&& ~~~0#8 = x := by rw [BitVec.not_zero, BitVec.and_allOnes]

/-- A row that fixes `A` to 0 is one whose `A` may hold no bit. -/
theorem decodeA0_eq_ok {a f fmask : BitVec 8} {i j : Instr} :
    decodeA0 a f fmask j = .ok i ↔ a = 0#8 ∧ f &&& ~~~fmask = 0#8 ∧ j = i := by
  rw [show decodeA0 a f fmask j = decodeAF a 0#8 f fmask j by rw [decodeA0, decodeAF, and_not_zero], decodeAF_eq_ok,
    and_not_zero]

/-! ### The operand bits of `A` and `F` (R101) -/

/-- `F` of `CHKIO`. -/
def ioFlags (out rep : Bool) : BitVec 8 := 0#6 ++ BitVec.ofBool rep ++ BitVec.ofBool out

/-- `F` of `INT`. -/
def intFlags (type : BitVec 3) (pushError : Bool) : BitVec 8 := 0#4 ++ BitVec.ofBool pushError ++ type

theorem ioFlags_fields : ∀ out rep : Bool, ioFlags out rep &&& ~~~0x03#8 = 0#8
    ∧ (ioFlags out rep).getLsbD 0 = out ∧ (ioFlags out rep).getLsbD 1 = rep := by decide

theorem intFlags_fields : ∀ (type : BitVec 3) (pushError : Bool), intFlags type pushError &&& ~~~0x0F#8 = 0#8
    ∧ (intFlags type pushError).extractLsb' 0 3 = type ∧ (intFlags type pushError).getLsbD 3 = pushError := by decide

theorem ioFlags_of_reserved : ∀ f : BitVec 8, f &&& ~~~0x03#8 = 0#8 → ioFlags (f.getLsbD 0) (f.getLsbD 1) = f := by decide

theorem intFlags_of_reserved : ∀ f : BitVec 8, f &&& ~~~0x0F#8 = 0#8 → intFlags (f.extractLsb' 0 3) (f.getLsbD 3) = f := by
  decide

theorem oneBit_of_reserved : ∀ f : BitVec 8, f &&& ~~~0x01#8 = 0#8 → 0#7 ++ BitVec.ofBool (f.getLsbD 0) = f := by decide

theorem twoBits_of_reserved : ∀ f : BitVec 8, f &&& ~~~0x03#8 = 0#8 → 0#6 ++ f.extractLsb' 0 2 = f := by decide

theorem threeBits_of_reserved : ∀ a : BitVec 8, a &&& ~~~0x07#8 = 0#8 → 0#5 ++ a.extractLsb' 0 3 = a := by decide

theorem fourBits_of_reserved : ∀ a : BitVec 8, a &&& ~~~0x0F#8 = 0#8 → 0#4 ++ a.extractLsb' 0 4 = a := by decide

/-- The debug-register numbers 8 to 15 (R105). -/
theorem one_append_of_upper : ∀ a : BitVec 8, a.extractLsb' 3 5 = 1#5 → 1#5 ++ a.extractLsb' 0 3 = a := by decide

/-! ### An encoded command decodes to its instruction -/

theorem decode_encode_chkio (width : BitVec 8) (out rep : Bool) (port : Half) :
    decode (encode (.chkio width out rep port)) = .ok (.chkio width out rep port) := by
  obtain ⟨reserved, hout, hrep⟩ := ioFlags_fields out rep
  refine (decode_chkio width (ioFlags out rep) _ _).trans ?_
  rw [hout, hrep, low16_setWidth]
  exact decodeAF_eq_ok.2 ⟨BitVec.and_zero, reserved, rfl⟩

theorem decode_encode_int (v : Vector8) (type : BitVec 3) (pushError : Bool) (ec : Half) :
    decode (encode (.int v type pushError ec)) = .ok (.int v type pushError ec) := by
  obtain ⟨reserved, htype, hpush⟩ := intFlags_fields type pushError
  refine (decode_int v (intFlags type pushError) _ _).trans ?_
  rw [htype, hpush, low16_setWidth]
  exact decodeAF_eq_ok.2 ⟨BitVec.and_zero, reserved, rfl⟩

theorem decode_encode_dbgtrap (b : Half) : decode (encode (.dbgtrap b)) = .ok (.dbgtrap b) := by
  refine (decode_dbgtrap 0#8 0#8 _ _).trans ?_
  rw [low16_setWidth]
  rfl

/-- `OPB` is lost for every vector but 14, which is why a well-formed instruction holds 0 there (R100). -/
theorem decode_encode_raise (v : Vector8) (ec : Half) (addr : Word) :
    decode (encode (.raise v ec addr)) = .ok (.raise v ec (if v == 14#8 then addr else 0#64)) := by
  refine (decode_raise v 0#8 _ _).trans ?_
  rw [low16_setWidth]
  rfl

theorem Instr.wf_raise {v : Vector8} {ec : Half} {addr : Word} :
    (Instr.raise v ec addr).wf = true ↔ v = 14#8 ∨ addr = 0#64 := by
  simp [Instr.wf]

/-- Settles O1. A command whose bits are all fixed evaluates; an operand of a word, and one of a whole byte, passes through
its row of the decoder; a field of a few bits decodes at each of its values. -/
theorem decodeEncode : Obligations.DecodeEncode := by
  intro i hwf
  cases i with
  | wrcr1Ud | wrcr5Ud | wrcr9Ud | rdcr1Ud | rdcr5Ud | rdcr9Ud => rfl
  | rdcr0 | rdcr2 | rdcr3 | rdcr4 | rdcr8 => rfl
  | rddr0 | rddr1 | rddr2 | rddr3 | rddr4 | rddr5 | rddr6 | rddr7 => rfl
  | rdefer | rdxss | boundary | instrStart | specRsp | commitRsp => rfl
  | wrcr0 v | wrcr2 v | wrcr3 v | wrcr4 v | wrcr8 v => exact decode_wrcr _ _ v _
  | wrdr0 v | wrdr1 v | wrdr2 v | wrdr3 v | wrdr4 v | wrdr5 v | wrdr6 v | wrdr7 v => exact decode_wrdr _ _ v _
  | wrefer v => exact decode_wrefer _ _ v _
  | wrxss v => exact decode_wrxss _ _ v _
  | wrxcr k v => exact decode_wrxcr k _ v _
  | rdxcr k => exact decode_rdxcr k _ _ _
  | wrcr6_7Ud a | wrcr10_11Ud a | wrcr12_15Ud a => clear hwf; revert a; decide
  | rdcr6_7Ud a | rdcr10_11Ud a | rdcr12_15Ud a => clear hwf; revert a; decide
  | wrdr8_15Ud a | rddr8_15Ud a | inhibit a | activity a => clear hwf; revert a; decide
  | signal e b | evmask e b => clear hwf; revert e b; decide
  | chkio width out rep port => exact decode_encode_chkio width out rep port
  | int v type pushError ec => exact decode_encode_int v type pushError ec
  | dbgtrap b => exact decode_encode_dbgtrap b
  | raise v ec addr =>
    rw [decode_encode_raise]
    rcases Instr.wf_raise.1 hwf with rfl | rfl
    · rfl
    · rw [ite_self]

/-! ### A word that decodes is the word of its instruction -/

/-- The instruction is well formed and its command word has these fields. -/
def Instr.HasWord (op a f : BitVec 8) (i : Instr) : Prop := i.wf = true ∧ (encode i).cmd = mkCmd op a f

section
variable {op a f amask fmask : BitVec 8} {v : Word} {i j : Instr}

theorem hasWord_of_decodeF0 {r : Except DecodeError Instr} (h : decodeF0 f r = .ok i)
    (hr : r = .ok i → i.HasWord op a 0#8) : i.HasWord op a f := by
  obtain ⟨rfl, hi⟩ := decodeF0_eq_ok.1 h
  exact hr hi

theorem hasWord_of_decodeAF (h : decodeAF a amask f fmask j = .ok i)
    (hj : a &&& ~~~amask = 0#8 → f &&& ~~~fmask = 0#8 → j.HasWord op a f) : i.HasWord op a f := by
  obtain ⟨ha, hf, rfl⟩ := decodeAF_eq_ok.1 h
  exact hj ha hf

theorem hasWord_of_decodeA0 (h : decodeA0 a f fmask j = .ok i) (hj : f &&& ~~~fmask = 0#8 → j.HasWord op 0#8 f) :
    i.HasWord op a f := by
  obtain ⟨rfl, hf, rfl⟩ := decodeA0_eq_ok.1 h
  exact hj hf

/-- A row without operand bits in `CMD`. -/
theorem hasWord_of_fixedRow (h : decodeA0 a f 0#8 j = .ok i) (hj : j.HasWord op 0#8 0#8) : i.HasWord op a f :=
  hasWord_of_decodeA0 h fun hf => by rw [and_not_zero] at hf; rwa [hf]

theorem hasWord_of_decodeWrcr (h : decodeWrcr a v = .ok i) : i.HasWord 0x01#8 a 0#8 := by
  unfold decodeWrcr at h
  split at h <;> cases h <;> exact ⟨rfl, rfl⟩

theorem hasWord_of_decodeRdcr (h : decodeRdcr a = .ok i) : i.HasWord 0x02#8 a 0#8 := by
  unfold decodeRdcr at h
  split at h <;> cases h <;> exact ⟨rfl, rfl⟩

/-- The row of the debug registers 8 to 15 takes its operand from the low bits of `A`. -/
theorem hasWord_of_upper {row : BitVec 3 → Instr} (hrow : ∀ b, (row b).HasWord op (1#5 ++ b) 0#8)
    (h : (if a.extractLsb' 3 5 == 1#5 then .ok (row (a.extractLsb' 0 3)) else .error .reservedA :
      Except DecodeError Instr) = .ok i) : i.HasWord op a 0#8 := by
  split at h
  next upper =>
    cases h
    have word := hrow (a.extractLsb' 0 3)
    rwa [one_append_of_upper a (by simpa using upper)] at word
  next => cases h

theorem hasWord_of_decodeWrdr (h : decodeWrdr a v = .ok i) : i.HasWord 0x03#8 a 0#8 := by
  unfold decodeWrdr at h
  split at h
  case h_9 => exact hasWord_of_upper (fun _ => ⟨rfl, rfl⟩) h
  all_goals cases h; exact ⟨rfl, rfl⟩

theorem hasWord_of_decodeRddr (h : decodeRddr a = .ok i) : i.HasWord 0x04#8 a 0#8 := by
  unfold decodeRddr at h
  split at h
  case h_9 => exact hasWord_of_upper (fun _ => ⟨rfl, rfl⟩) h
  all_goals cases h; exact ⟨rfl, rfl⟩

theorem hasWord_raise (v : Vector8) (ec : Half) (addr : Word) :
    (Instr.raise v ec (if v == 14#8 then addr else 0#64)).HasWord 0x30#8 v 0#8 := by
  refine ⟨Instr.wf_raise.2 ?_, rfl⟩
  by_cases hv : v = 14#8
  · exact .inl hv
  · exact .inr (if_neg (by simpa using hv))

end

/-- A command that decodes has `Z` 0 and the fields of the word of its instruction: one case per `OP`. -/
theorem hasWord_of_decode {c : Command} {i : Instr} (h : decode c = .ok i) : c.z = 0#8 ∧ i.HasWord c.op c.a c.f := by
  unfold decode at h
  split at h
  next => cases h
  next hz =>
    refine ⟨by simpa using hz, ?_⟩
    generalize c.op = op, c.a = a, c.f = f at h ⊢
    dsimp only at h
    split at h
    · exact hasWord_of_decodeF0 h hasWord_of_decodeWrcr
    · exact hasWord_of_decodeF0 h hasWord_of_decodeRdcr
    · exact hasWord_of_decodeF0 h hasWord_of_decodeWrdr
    · exact hasWord_of_decodeF0 h hasWord_of_decodeRddr
    · exact hasWord_of_fixedRow h ⟨rfl, rfl⟩
    · exact hasWord_of_fixedRow h ⟨rfl, rfl⟩
    · exact hasWord_of_decodeF0 h fun e => by cases e; exact ⟨rfl, rfl⟩
    · exact hasWord_of_decodeF0 h fun e => by cases e; exact ⟨rfl, rfl⟩
    · exact hasWord_of_fixedRow h ⟨rfl, rfl⟩
    · exact hasWord_of_fixedRow h ⟨rfl, rfl⟩
    · exact hasWord_of_decodeAF h fun _ hf => ⟨rfl, congrArg (mkCmd 0x10#8 a) (ioFlags_of_reserved f hf)⟩
    · exact hasWord_of_fixedRow h ⟨rfl, rfl⟩
    · exact hasWord_of_decodeA0 h fun hf => ⟨rfl, congrArg (mkCmd 0x21#8 0#8) (twoBits_of_reserved f hf)⟩
    · exact hasWord_of_decodeAF h fun ha hf =>
        ⟨rfl, congrArg₂ (mkCmd 0x22#8) (fourBits_of_reserved a ha) (oneBit_of_reserved f hf)⟩
    · exact hasWord_of_decodeAF h fun ha hf =>
        ⟨rfl, congrArg₂ (mkCmd 0x23#8) (fourBits_of_reserved a ha) (oneBit_of_reserved f hf)⟩
    · exact hasWord_of_fixedRow h ⟨rfl, rfl⟩
    · exact hasWord_of_decodeAF h fun ha hf =>
        ⟨rfl, congrArg₂ (mkCmd 0x25#8) (threeBits_of_reserved a ha) ((and_not_zero f).symm.trans hf).symm⟩
    · exact hasWord_of_decodeF0 h fun e => by cases e; exact hasWord_raise a _ _
    · exact hasWord_of_decodeAF h fun _ hf => ⟨rfl, congrArg (mkCmd 0x31#8 a) (intFlags_of_reserved f hf)⟩
    · exact hasWord_of_fixedRow h ⟨rfl, rfl⟩
    · exact hasWord_of_fixedRow h ⟨rfl, rfl⟩
    · exact hasWord_of_fixedRow h ⟨rfl, rfl⟩
    · cases h

/-- Settles O2: the instruction's word has the fields of the command, and `Z` is 0 in both. -/
theorem decodedWordIsEncodedWord : Obligations.DecodedWordIsEncodedWord := by
  intro c i h
  obtain ⟨hz, wf, word⟩ := hasWord_of_decode h
  exact ⟨wf, word.trans (Command.cmd_eq_mkCmd hz).symm⟩

/-- Settles O3: each word is `mkCmd` of its fields, and its row gives the instruction. -/
theorem decodesSpecWords : Obligations.DecodesSpecWords :=
  ⟨decode_wrcr 0x00#8 0#8, decode_wrcr 0x08#8 0#8, decode_wrcr 0x0D#8 0#8, decode_rdcr 0x03#8 0#8,
    decode_rdcr 0x07#8 0#8, decode_wrdr 0x07#8 0#8, decode_rddr 0x06#8 0#8, decode_wrdr 0x0A#8 0#8,
    decode_wrefer 0#8 0#8, decode_wrxcr 3#8 0#8, decode_chkio 4#8 0x02#8 _, decode_boundary 0#8 0#8,
    decode_signal 0x0A#8 0x01#8, decode_dbgtrap 0#8 0#8 _, decode_raise 14#8 0#8 _, decode_raise 13#8 0#8 _,
    decode_int 0x80#8 0x0C#8 _, decode_specRsp 0#8 0#8⟩

end Sys2Proof
end

section
/-! SUPPORT. The response word by its fields (R102, R110), and the rows of the register numbers that select nothing
(R104, R105): each comes to raise #UD(0), and what an exception that is delivered answers. -/

namespace Sys2Proof.Machine

/-! ### The response port (R102, R110) -/

theorem State.resp_reserved_respond (s : State) (a : Answer) : (s.respond a).response.resp.extractLsb' 8 20 = 0#20 := by
  rw [State.respond_response, BitVec.extractLsb'_append_eq_of_le (by decide),
    BitVec.extractLsb'_append_eq_of_add_le (by decide), BitVec.extractLsb'_eq_self]

@[simp] theorem State.respVector_respond (s : State) (a : Answer) : (s.respond a).respVector = a.vector := by
  rw [State.respVector, State.respond_response, BitVec.extractLsb'_append_eq_right]

/-- Settles O5: the fields of `RESP` are read back from the word, and `RES` is `Answer.res`, case by case. -/
theorem responseEncoding : Obligations.ResponseEncoding := by
  intro s a
  refine ⟨rfl, s.resp_reserved_respond a, ?_, ?_, ?_, ?_, ?_⟩
  · rw [State.kind_respond]
    cases a <;> rfl
  · rw [State.respVector_respond]
    cases a <;> rfl
  · rintro r rfl
    rfl
  · rintro v sel rfl
    rfl
  · rintro (⟨v, rfl⟩ | rfl | rfl | rfl | rfl | rfl | rfl) <;> rfl

/-! ### Register numbers that select nothing (R104, R105) -/

theorem body_of_undefinedRow {i : Instr} (h : undefinedRow i = true) : body i = undefinedRegister := by
  cases i with
  | wrcr1Ud | wrcr5Ud | wrcr6_7Ud | wrcr9Ud | wrcr10_11Ud | wrcr12_15Ud => rfl
  | rdcr1Ud | rdcr5Ud | rdcr6_7Ud | rdcr9Ud | rdcr10_11Ud | rdcr12_15Ud => rfl
  | wrdr8_15Ud | rddr8_15Ud => rfl
  | _ => cases h

theorem exec_of_undefinedRow {i : Instr} (h : undefinedRow i = true) (s : State) : exec i s = raisedIn 6#8 0#16 s := by
  rw [exec_eq_runCommand, body_of_undefinedRow h]
  exact runCommand_eq_raisedIn_same (by decide) (run_raise _ _ _)

/-- An exception that is delivered answers `DELIVERED` with its vector (R262). A page fault is left out, because the command
`RAISE 14` records its fault address first. -/
theorem raisedIn_of_exceptionTo {v : Vector8} {ec : Half} {s t : State} (live : s.aborted = false) (hv : v ≠ 14#8)
    (h : ExceptionTo s v ec t) : raisedIn v ec s = doneIn (.delivered v) t := by
  rw [raisedIn_eq live hv, maxExceptions, run_exception_ok _ h]
  rfl

/-- Settles O27: the rule of each such row is `raise #UD(0)` alone. -/
theorem undefinedRegisterRows : Obligations.UndefinedRegisterRows := by
  intro i s hi
  have raises := exec_of_undefinedRow hi s
  exact ⟨raises, fun t live h => raises.trans (raisedIn_of_exceptionTo live (by decide) h)⟩

end Sys2Proof.Machine
end

section
/-! SUPPORT. What `SystemFrame` guards is written by the system writes alone, and by those past their privilege check only
(R130, R40, R45, R46, R25): every delivery, every exception and every rule of another command leaves it as it was, unless
it resets the machine. -/

-- The check compiles the whole text under a limit on memory, which the stacks of more threads would exceed.
set_option Elab.async false

namespace Sys2Proof.Machine

variable {α β : Type} {i : Instr}

/-! ### The relation -/

theorem SystemFrame.refl (s : State) : SystemFrame s s where
  regs := rfl
  tables := ⟨rfl, rfl, rfl, rfl⟩
  tpr := ⟨rfl, rfl⟩
  inp := rfl
  phys := rfl
  cfg := rfl
  queue := rfl

theorem SystemFrame.trans {a b c : State} (h1 : SystemFrame a b) (h2 : SystemFrame b c) : SystemFrame a c := by
  obtain ⟨tr1, ldtr1, gdtr1, idtr1⟩ := h1.tables
  obtain ⟨tr2, ldtr2, gdtr2, idtr2⟩ := h2.tables
  exact {
    regs := h2.regs.trans (congrArg (fun r : ControlRegs =>
      { r with cr2 := c.regs.cr2, dr6 := c.regs.dr6, dr7 := c.regs.dr7 }) h1.regs)
    tables := ⟨tr2.trans tr1, ldtr2.trans ldtr1, gdtr2.trans gdtr1, idtr2.trans idtr1⟩
    tpr := ⟨h2.tpr.1.trans h1.tpr.1, h2.tpr.2.trans h1.tpr.2⟩
    inp := h2.inp.trans h1.inp
    phys := h2.phys.trans h1.phys
    cfg := h2.cfg.trans h1.cfg
    queue := h2.queue.trans h1.queue }

/-- A write to fields that the frame does not name. -/
theorem SystemFrame.of_same {s s' : State}
    (regs : s'.regs = { s.regs with cr2 := s'.regs.cr2, dr6 := s'.regs.dr6, dr7 := s'.regs.dr7 } := by rfl)
    (tables : sameTables s.ctx s'.ctx := by exact ⟨rfl, rfl, rfl, rfl⟩) (tpr : s'.tpr = s.tpr := by rfl)
    (vtpr : s'.vtpr = s.vtpr := by rfl) (inp : s'.inp = s.inp := by rfl) (phys : s'.phys = s.phys := by rfl)
    (cfg : s'.cfg = s.cfg := by rfl) (queue : s'.queue = s.queue := by rfl) : SystemFrame s s' :=
  ⟨regs, tables, ⟨tpr, vtpr⟩, inp, phys, cfg, queue⟩

/-- Every exit but a reset keeps the frame. -/
def frameExit (s s' : State) (x : Stop) : Prop := x ≠ .done .reset → SystemFrame s s'

theorem frame_exceptionSteps : ExceptionSteps SystemFrame frameExit where
  refl := SystemFrame.refl
  trans := SystemFrame.trans
  pre h1 h2 hx := h1.trans (h2 hx)
  hist _ _ := .of_same
  port _ := .of_same
  mem _ _ _ _ := .of_same
  cr2 _ _ := .of_same
  ctx _ _ hc := .of_same (tables := hc)
  sched _ := .of_same
  exc _ _ _ := .of_same
  raise _ _ _ _ _ := .of_same
  abort _ _ _ := .of_same
  taskSw _ _ _ _ _ _ _ := .of_same
  refuse _ _ _ := .of_same
  caught _ _ _ _ h := h nofun
  lastType _ _ := .of_same
  commit _ := .of_same
  vmexit _ _ _ := .of_same
  tripleReset _ _ hx := absurd rfl hx
  shutDown _ _ _ := .of_same
  depth _ _ := .of_same

/-! ### Rules that keep the frame -/

/-- The command keeps the frame, unless it leaves its rule with a reset. -/
def Framed (m : M α) : Prop := Spec SystemFrame frameExit m

namespace Framed

/-! The constructs of a rule (R7). -/

theorem andThen {m : M α} {f : α → M β} (hm : Framed m) (hf : ∀ a, Framed (f a)) : Framed (m >>= f) :=
  Spec.bind frame_exceptionSteps.toChain hm hf

theorem reading {f : State → M β} (hf : ∀ s, Framed (f s)) : Framed (get >>= f) :=
  Spec.bind frame_exceptionSteps.toChain (Spec.get frame_exceptionSteps.toChain) hf

theorem skip (a : α) : Framed (pure a : M α) := Spec.pure frame_exceptionSteps.toChain a

theorem when {c : Prop} [Decidable c] {m : M Unit} (hm : Framed m) : Framed (if c then m else pure ()) :=
  Spec.ite (fun _ => hm) fun _ => skip ()

theorem raise (v : Vector8) (ec : Half) : Framed (raise v ec : M α) := fun s _ => .refl s

theorem raiseIf (c : Bool) (v : Vector8) (ec : Half) : Framed (raiseIf c v ec) := when (raise v ec)

theorem finish (a : Answer) : Framed (finish a : M α) := fun s _ => .refl s

theorem abort (r : AbortReason) : Framed (abort r : M α) := fun s => frame_exceptionSteps.abort s r

theorem abortIf (c : Bool) (r : AbortReason) : Framed (abortIf c r) := when (abort r)

theorem emit (e : Event) : Framed (emit e) := frame_exceptionSteps.emit e

theorem vmExit (e : ExitInfo) : Framed (vmExit e : M α) := fun s => frame_exceptionSteps.vmexit s e

theorem modifySched (f : Sched → Sched) : Framed (modifySched f) := Spec.modify fun _ => .of_same

theorem modifyExc (f : ExcState → ExcState) : Framed (modifyExc f) := Spec.modify fun _ => .of_same

/-- A write to a field that the frame does not name. -/
theorem write (f : State → State) (hf : ∀ s, SystemFrame s (f s) := by exact fun _ => .of_same) :
    Framed (modify f) := Spec.modify hf

/-! The layer, the memory port and the delivery, which `ExceptionSteps` covers. -/

theorem obeyPlain (a : Option ExitInfo) : Framed (obeyPlain a) := frame_exceptionSteps.obeyPlain a

theorem askPlain (q : PlainQuery) : Framed (askPlain q) := frame_exceptionSteps.askPlain q

theorem memRead (a : Word) (n : Nat) (acc : Acc) : Framed (memRead a n acc) := frame_exceptionSteps.memRead a n acc

theorem deliver (v : Vector8) (type : BitVec 3) (p : Bool) (ec : Half) : Framed (deliver v type p ec) :=
  frame_exceptionSteps.deliver v type p ec

theorem obeyRead (cur : Word) : ∀ a : RegAnswer, Framed (obeyRead a cur)
  | .pass => skip _
  | .exit e => vmExit e
  | .handled _ _ => skip _

theorem requireCpl0 : Framed requireCpl0 := reading fun _ => raiseIf _ _ _

/-! ### Reads of system registers (R153, R164, R168, R171, R178) -/

theorem rdcr (n : CrNum) : Framed (rdcr n) := requireCpl0.andThen fun _ => reading fun _ => obeyRead _ _

theorem rdcr8 : Framed rdcr8 := reading fun _ => (raiseIf _ _ _).andThen fun _ => rdcr _

theorem generalDetect : Framed generalDetect :=
  reading fun _ => when <| (modifySched _).andThen fun _ => raise _ _

theorem drAccess (n : DrNum) (dir : Dir) : Framed (drAccess n dir) :=
  generalDetect.andThen fun _ => requireCpl0.andThen fun _ => askPlain _

theorem rddr (n : DrNum) : Framed (rddr n) := (drAccess _ _).andThen fun _ => reading fun _ => skip _

theorem requireAlias : Framed requireAlias := reading fun _ => raiseIf _ _ _

theorem rddrAlias (n : DrNum) : Framed (rddrAlias n) := requireAlias.andThen fun _ => rddr n

theorem rdefer : Framed rdefer := requireCpl0.andThen fun _ => reading fun _ => obeyRead _ _

theorem requireOsxsave : Framed requireOsxsave := reading fun _ => raiseIf _ _ _

theorem rdxcr (k : BitVec 8) : Framed (rdxcr k) :=
  requireOsxsave.andThen fun _ => (raiseIf _ _ _).andThen fun _ => reading fun _ => skip _

theorem rdxss : Framed rdxss :=
  requireCpl0.andThen fun _ => reading fun _ => (raiseIf _ _ _).andThen fun _ => obeyRead _ _

/-! ### The I/O permission check (R190 to R200) -/

theorem bitmapWord (port : Half) (width : BitVec 8) : Framed (bitmapWord port width) :=
  reading fun _ => (memRead _ _ _).andThen fun _ => Spec.ite (fun _ => skip _) fun _ =>
    (memRead _ _ _).andThen fun _ => skip _

theorem bitmapGrants (port : Half) (width : BitVec 8) : Framed (bitmapGrants port width) :=
  reading fun _ => Spec.ite (fun _ => skip _) fun _ => Spec.ite (fun _ => bitmapWord _ _) fun _ => skip _

theorem denyUnless (granted : Bool) : Framed (denyUnless granted) := Spec.ite (fun _ => skip _) fun _ => finish _

theorem chkio (width : BitVec 8) (out rep : Bool) (port : Half) : Framed (chkio width out rep port) :=
  (abortIf _ _).andThen fun _ => (bitmapGrants _ _).andThen fun _ => (denyUnless _).andThen fun _ =>
    (askPlain _).andThen fun _ => (write _).andThen fun _ => skip _

/-! ### The scheduler's feeders (R245 to R249) -/

theorem signal (e : BitVec 4) (level : Bool) : Framed (signal e level) :=
  (abortIf _ _).andThen fun _ => (modifySched _).andThen fun _ => skip _

theorem evmask (e : BitVec 4) (mask : Bool) : Framed (evmask e mask) := (modifySched _).andThen fun _ => skip _

theorem inhibit (m : BitVec 2) : Framed (inhibit m) := (modifySched _).andThen fun _ => skip _

theorem dbgtrap (b : Half) : Framed (dbgtrap b) :=
  (abortIf _ _).andThen fun _ => (modifySched _).andThen fun _ => skip _

/-- Entering an activity state writes RFLAGS at most (R249). -/
theorem sameTables_activityCtx (a : Activity) (c : Context) : sameTables c (activityCtx a c) := by
  unfold activityCtx
  split <;> exact ⟨rfl, rfl, rfl, rfl⟩

theorem activity (code : BitVec 3) : Framed (activity code) := by
  unfold Machine.activity
  cases activityOf code with
  | none => exact abort _
  | some a =>
    exact (modifySched _).andThen fun _ =>
      andThen (frame_exceptionSteps.modifyCtx (sameTables_activityCtx a)) fun _ => skip _

/-! ### Exceptions, interrupts and snapshots (R260, R276 to R278, R290) -/

theorem raiseCommand (v : Vector8) (ec : Half) (addr : Word) : Framed (raiseCommand v ec addr) :=
  (when (write _)).andThen fun _ => raise _ _

theorem intCommand (v : Vector8) (type : BitVec 3) (p : Bool) (ec : Half) : Framed (intCommand v type p ec) :=
  (abortIf _ _).andThen fun _ => (when (frame_exceptionSteps.askExc _ _ _ _)).andThen fun _ => reading fun _ =>
    (deliver _ _ _ _).andThen fun _ => skip _

theorem instrStart : Framed instrStart := (write _).andThen fun _ => skip _

theorem specRsp : Framed specRsp := (write _).andThen fun _ => skip _

theorem commitRsp : Framed commitRsp := (modifyExc _).andThen fun _ => skip _

/-! ### The pass `BOUNDARY` (R220 to R253) -/

theorem clearPending (e : Nat) : Framed (clearPending e) := modifySched _

theorem stepKill : Framed stepKill := reading fun _ => when (finish _)

theorem haltedFirst : Framed haltedFirst :=
  reading fun _ => when <| stepKill.andThen fun _ => reading fun _ =>
    Spec.ite (fun _ => modifySched _) fun _ => finish _

theorem stepTaskTrap : Framed stepTaskTrap := reading fun _ => raiseIf _ _ _

theorem apicTrap (e : Nat) : Framed (apicTrap e) :=
  reading fun _ => when <| (clearPending _).andThen fun _ => obeyPlain _

theorem stepApic : Framed stepApic := (apicTrap _).andThen fun _ => (apicTrap _).andThen fun _ => apicTrap _

theorem stepSmi : Framed stepSmi :=
  reading fun _ => when <| (clearPending _).andThen fun _ => (askPlain _).andThen fun _ => (emit _).andThen fun _ =>
    finish _

/-- The reset of an INIT is the one exit that the relation leaves out (R234). -/
theorem initReset : Framed (modify resetState >>= fun _ => Machine.emit (.reset .init) >>= fun _ =>
    (Machine.finish .reset : M Unit)) := fun _ hx => absurd rfl hx

theorem stepInit : Framed stepInit :=
  reading fun _ => when <| (clearPending _).andThen fun _ => (askPlain _).andThen fun _ => initReset

theorem stepMtf : Framed stepMtf := reading fun _ => when <| (clearPending _).andThen fun _ => vmExit _

theorem stepDebug : Framed stepDebug := reading fun _ => Spec.ite (fun _ => modifySched _) fun _ => raiseIf _ _ _

theorem deliverAsync (v : Vector8) (type : BitVec 3) : Framed (deliverAsync v type) :=
  (deliver _ _ _ _).andThen fun _ => (write _).andThen fun _ => skip _

theorem takeNmi : Framed takeNmi :=
  (modifySched _).andThen fun _ => (askPlain _).andThen fun _ => (modifyExc _).andThen fun _ => deliverAsync _ _

theorem takeExternal (v : Vector8) : Framed (takeExternal v) :=
  (emit _).andThen fun _ => (askPlain _).andThen fun _ => (modifyExc _).andThen fun _ => deliverAsync _ _

theorem takeVirtual : Framed takeVirtual :=
  (clearPending _).andThen fun _ => reading fun _ => (modifyExc _).andThen fun _ => deliverAsync _ _

theorem takeLapic : Framed takeLapic := (clearPending _).andThen fun _ => reading fun _ => takeExternal _

theorem takePic : Framed takePic := (clearPending _).andThen fun _ => reading fun _ => takeExternal _

theorem takeMaskable : Framed takeMaskable :=
  reading fun _ => Spec.ite (fun _ => takeVirtual) fun _ => Spec.ite (fun _ => takeLapic) fun _ => takePic

theorem takeSvmVirq : Framed takeSvmVirq :=
  (clearPending _).andThen fun _ => reading fun _ => (emit _).andThen fun _ => (askPlain _).andThen fun _ =>
    deliverAsync _ _

theorem takeDma : Framed takeDma := (clearPending _).andThen fun _ => (emit _).andThen fun _ => skip _

theorem takePreempt : Framed takePreempt := (clearPending _).andThen fun _ => vmExit _

theorem stepInterrupts : Framed stepInterrupts :=
  reading fun _ => Spec.ite (fun _ => skip _) fun _ => Spec.ite (fun _ => takePreempt) fun _ =>
    Spec.ite (fun _ => vmExit _) fun _ => Spec.ite (fun _ => takeNmi) fun _ => Spec.ite (fun _ => vmExit _) fun _ =>
    Spec.ite (fun _ => takeMaskable) fun _ => Spec.ite (fun _ => takeSvmVirq) fun _ =>
    Spec.ite (fun _ => takeDma) fun _ => skip _

theorem armSingleStep : Framed (modify armSingleStep) := by
  refine write _ fun s => ?_
  unfold Machine.armSingleStep
  split
  · exact .of_same
  · exact .refl s

theorem endPass : Framed (modify endPass) := write _

theorem boundary : Framed boundary :=
  haltedFirst.andThen fun _ => stepKill.andThen fun _ => stepTaskTrap.andThen fun _ => stepApic.andThen fun _ =>
    stepSmi.andThen fun _ => stepInit.andThen fun _ => stepMtf.andThen fun _ => stepDebug.andThen fun _ =>
    stepInterrupts.andThen fun _ => armSingleStep.andThen fun _ => endPass.andThen fun _ => skip _

end Framed

/-- The rule of a command that is no system write keeps the frame. -/
theorem framed_body (h : systemWrite i = false) : Framed (body i) := by
  cases i with
  | wrcr0 | wrcr2 | wrcr3 | wrcr4 | wrcr8 | wrefer | wrxcr | wrxss => cases h
  | wrdr0 | wrdr1 | wrdr2 | wrdr3 | wrdr4 | wrdr5 | wrdr6 | wrdr7 => cases h
  | wrcr1Ud | wrcr5Ud | wrcr6_7Ud _ | wrcr9Ud | wrcr10_11Ud _ | wrcr12_15Ud _ => exact .raise _ _
  | rdcr0 | rdcr2 | rdcr3 | rdcr4 => exact .rdcr _
  | rdcr8 => exact .rdcr8
  | rdcr1Ud | rdcr5Ud | rdcr6_7Ud _ | rdcr9Ud | rdcr10_11Ud _ | rdcr12_15Ud _ => exact .raise _ _
  | rddr0 | rddr1 | rddr2 | rddr3 | rddr6 | rddr7 => exact .rddr _
  | rddr4 | rddr5 => exact .rddrAlias _
  | wrdr8_15Ud _ | rddr8_15Ud _ => exact .raise _ _
  | rdefer => exact .rdefer
  | rdxcr k => exact .rdxcr k
  | rdxss => exact .rdxss
  | chkio width out rep port => exact .chkio width out rep port
  | boundary => exact .boundary
  | inhibit m => exact .inhibit m
  | signal e level => exact .signal e level
  | evmask e mask => exact .evmask e mask
  | dbgtrap b => exact .dbgtrap b
  | activity a => exact .activity a
  | raise v ec addr => exact .raiseCommand v ec addr
  | int v type pushError ec => exact .intCommand v type pushError ec
  | instrStart => exact .instrStart
  | specRsp => exact .specRsp
  | commitRsp => exact .commitRsp

/-! ### System writes at another level (R130, R104, R165, R174, R175, R179) -/

/-- The command raises from `s`, with the frame kept until then. -/
def RaisesIn (m : M α) (s : State) : Prop := ∃ v ec s', m s = .error (.raise v ec) s' ∧ SystemFrame s s'

theorem RaisesIn.andThen {m : M α} {s : State} (h : RaisesIn m s) (f : α → M β) : RaisesIn (m >>= f) s := by
  obtain ⟨v, ec, s', e, frame⟩ := h
  exact ⟨v, ec, s', by rw [run_bind, e], frame⟩

/-- A test before the privilege check either raises or lets the rule go on in the same state. -/
theorem RaisesIn.raiseIf_bind {c : Bool} {v : Vector8} {ec : Half} {f : Unit → M β} {s : State}
    (h : RaisesIn (f ()) s) : RaisesIn (raiseIf c v ec >>= f) s := by
  cases c with
  | true => exact ⟨v, ec, s, rfl, .refl s⟩
  | false => exact h

theorem SpecAt.of_raisesIn {m : M α} {s : State} (h : RaisesIn m s) : SpecAt SystemFrame frameExit m s := by
  obtain ⟨v, ec, s', e, frame⟩ := h
  unfold SpecAt
  rw [e]
  exact fun _ => frame

theorem run_requireCpl0_raise {s : State} (h : s.ctx.cpl ≠ 0#2) :
    requireCpl0 s = .error (.raise 13#8 0#16) s := by
  simp [requireCpl0, run_raiseIf, h]

theorem raisesIn_requireCpl0 {s : State} (h : s.ctx.cpl ≠ 0#2) : RaisesIn requireCpl0 s :=
  ⟨_, _, s, run_requireCpl0_raise h, .refl s⟩

/-- General detect comes before the privilege check, and its #DB too leaves the frame alone (R179). -/
theorem raisesIn_drAccess {s : State} (h : s.ctx.cpl ≠ 0#2) (n : DrNum) (dir : Dir) : RaisesIn (drAccess n dir) s := by
  cases hgd : s.regs.gd with
  | true =>
    have detected : RaisesIn generalDetect s :=
      ⟨1#8, 0#16, s.setSched { s.sched with debugTrap := s.sched.debugTrap ||| 0x2000#16 },
        by simp [generalDetect, hgd], .of_same⟩
    exact detected.andThen _
  | false =>
    have passed : generalDetect s = .ok () s := by simp [generalDetect, hgd]
    obtain ⟨v, ec, s', e, frame⟩ := (raisesIn_requireCpl0 h).andThen fun _ => askPlain (.dr n dir)
    exact ⟨v, ec, s', by rw [drAccess, run_bind_ok passed, e], frame⟩

theorem raisesIn_body (hi : systemWrite i = true) {s : State} (h : s.ctx.cpl ≠ 0#2) : RaisesIn (body i) s := by
  have atLevel0 {f : Unit → M Answer} : RaisesIn (requireCpl0 >>= f) s := (raisesIn_requireCpl0 h).andThen f
  have atDr {n : DrNum} {f : Unit → M Answer} : RaisesIn (drAccess n .write >>= f) s :=
    (raisesIn_drAccess h n .write).andThen f
  cases i with
  | wrcr0 v | wrcr2 v | wrcr3 v | wrcr4 v | wrefer v | wrxss v => exact atLevel0
  | wrcr8 v => exact RaisesIn.raiseIf_bind (c := !s.cfg.has .x86_64) atLevel0
  | wrxcr k v => exact RaisesIn.raiseIf_bind (c := !s.regs.osxsave) atLevel0
  | wrdr0 v | wrdr1 v | wrdr2 v | wrdr3 v | wrdr6 v | wrdr7 v => exact atDr
  | wrdr4 v | wrdr5 v => exact RaisesIn.raiseIf_bind (c := s.regs.de) atDr
  | _ => cases hi

/-! ### From the rule to the next state -/

theorem Answer.eq_reset {a : Answer} (h : a.kind = 6#4) : a = .reset := by
  cases a with
  | reset => rfl
  | _ => exact absurd h (by simp [Answer.kind])

theorem SystemFrame.respond {s s' : State} (h : SystemFrame s s') (a : Answer) : SystemFrame s (s'.respond a) :=
  h.trans .of_same

/-- What an exit with the answer `a` keeps, seen from the response. -/
theorem frameExit.respond {s s' : State} {a : Answer} (h : frameExit s s' (.done a))
    (hk : (s'.respond a).kind ≠ 6#4) : SystemFrame s (s'.respond a) := by
  rw [State.kind_respond] at hk
  refine (h ?_).respond a
  rintro ⟨⟩
  exact hk rfl

/-- Whatever is raised, taking it keeps the frame unless it resets the machine (R262). -/
theorem systemFrame_of_exception {n : Nat} {v : Vector8} {ec : Half} {s t : State}
    (e : outcomeOf (exception n v ec s) = .next t) (hk : t.kind ≠ 6#4) : SystemFrame s t := by
  have spec := frame_exceptionSteps.exception n v ec
  cases e1 : exception n v ec s with
  | ok a s' =>
    rw [e1] at e
    cases e
    exact (spec.ok e1).respond a
  | error x s' =>
    rw [e1] at e
    cases x with
    | done a =>
      cases e
      exact (spec.error e1).respond hk
    | raise w ec' => cases e
    | refuse r => cases e
    | depth => cases e

/-- A command whose rule keeps the frame from `s` keeps it to its response. -/
theorem systemFrame_of_runCommand {m : M Answer} {s t : State} (rule : SpecAt SystemFrame frameExit m s)
    (e : runCommand m s = .next t) (hk : t.kind ≠ 6#4) : SystemFrame s t := by
  cases live : s.aborted with
  | true =>
    rw [runCommand_aborted live] at e
    cases e
    exact .of_same
  | false =>
    unfold SpecAt at rule
    cases e1 : m s with
    | ok a s' =>
      rw [e1] at rule
      rw [runCommand_ok live e1] at e
      cases e
      exact rule.respond a
    | error x s' =>
      rw [e1] at rule
      cases x with
      | done a =>
        rw [runCommand_done live e1] at e
        cases e
        exact frameExit.respond rule hk
      | raise v ec =>
        rw [runCommand_raise live e1] at e
        exact (rule nofun).trans (systemFrame_of_exception e hk)
      | refuse r => simp [runCommand, live, onRaise, e1] at e
      | depth => simp [runCommand, live, onRaise, e1] at e

/-- Settles O13: the rule of a command that is no system write keeps the frame, and a system write at another level raises
before it writes; the exceptions and deliveries that follow keep it as well. -/
theorem systemRegistersAreGuarded : Obligations.SystemRegistersAreGuarded := by
  intro i s t e hk guard
  rw [exec_eq_runCommand] at e
  refine systemFrame_of_runCommand ?_ e hk
  cases hi : systemWrite i with
  | false => exact (framed_body hi).at s
  | true =>
    have level : s.ctx.cpl ≠ 0#2 := guard.resolve_right (by simp [hi])
    exact .of_raisesIn (raisesIn_body hi level)

end Sys2Proof.Machine
end

section
/-! SUPPORT. The stages that the register commands share, from a given state (R130, R153, R174, R178): the privilege check,
the answer of the intercept layer, and where each of them ends the command. -/

namespace Sys2Proof.Machine

variable {α β : Type}

theorem run_bind_error {m : M α} {f : α → M β} {s s' : State} {x : Stop} (e : m s = .error x s') :
    (m >>= f) s = .error x s' := by
  rw [run_bind, e]

/-! ### The value CR0 takes (R137) -/

/-- At each level the normalisation is the mask arithmetic of the statements. -/
theorem norm0_eq_cr0Value (l : CpuLevel) (v : Word) : norm0 l v = cr0Value l v := by
  have low : (v.setWidth 32).setWidth 64 = v &&& 0xFFFFFFFF#64 := by
    refine BitVec.eq_of_toNat_eq ?_
    rw [BitVec.toNat_and, BitVec.toNat_setWidth, BitVec.toNat_setWidth]
    exact (Nat.mod_eq_of_lt (by omega)).trans (Nat.and_two_pow_sub_one_eq_mod v.toNat 32).symm
  have masked : (v &&& 0xFFFFFFFF#64 ||| 0x10#64) &&& 0xE005003F#64 = (v ||| 0x10#64) &&& 0xE005003F#64 := by
    rw [BitVec.and_or_distrib_right, BitVec.and_or_distrib_right, BitVec.and_assoc]
    rfl
  cases l with
  | l3 | l5 => simp only [norm0, BitVec.setWidth_or, low]; rfl
  | l4 | l6 =>
    simp only [norm0, BitVec.setWidth_and, BitVec.setWidth_or, low]
    exact masked

/-! ### The privilege check (R130, stage 2) -/

theorem run_requireCpl0 {s : State} (h : s.ctx.cpl = 0#2) : requireCpl0 s = .ok () s := by
  simp [requireCpl0, h]

/-- A command whose rule begins with the privilege check raises #GP(0) at another level. -/
theorem runCommand_otherLevel {s : State} (h : s.ctx.cpl ≠ 0#2) (f : Unit → M Answer) :
    runCommand (requireCpl0 >>= f) s = raisedIn 13#8 0#16 s :=
  runCommand_eq_raisedIn_same (by decide) (run_bind_error (run_requireCpl0_raise h))

/-! ### Writes that the layer may decide (R130, stage 3) -/

/-- The shape of a register write: the privilege check, the query `q`, and where it passes the rest `f` of the rule. -/
def guardedWrite (q : State → RegAnswer) (f : State → M Answer) : M Answer := do
  requireCpl0
  let s ← get
  obeyWrite (q s)
  f s

section
variable {q : State → RegAnswer} {f : State → M Answer} {s : State}

theorem run_guardedWrite (cpl : s.ctx.cpl = 0#2) :
    guardedWrite q f s = (obeyWrite (q s) >>= fun _ => f s) s :=
  (run_bind_ok (run_requireCpl0 cpl)).trans (run_bind_ok (run_get s))

theorem run_guardedWrite_pass (cpl : s.ctx.cpl = 0#2) (hq : q s = .pass) : guardedWrite q f s = f s s := by
  rw [run_guardedWrite cpl, hq]
  exact run_bind_ok (run_pure _ s)

theorem run_guardedWrite_exit (cpl : s.ctx.cpl = 0#2) {e : ExitInfo} (hq : q s = .exit e) :
    guardedWrite q f s = .error (.done .vmexit) (s.exited e) := by
  rw [run_guardedWrite cpl, hq]
  exact run_bind_error (run_vmExit e s)

theorem run_guardedWrite_handled (cpl : s.ctx.cpl = 0#2) {x : Word} {b : Bool} (hq : q s = .handled x b) :
    guardedWrite q f s = .error (.done (.ok 0#64)) s := by
  rw [run_guardedWrite cpl, hq]
  exact run_bind_error (run_finish _ s)

/-- The layer decides before the rest of the rule is looked at. -/
theorem layerDecides_of_run {i : Instr} (hs : Supervisor s) (run : body i s = guardedWrite q f s) :
    LayerDecides i (q s) s := by
  refine ⟨fun e he => ?_, fun x b hx => ?_⟩
  · rw [exec_eq_runCommand]
    exact runCommand_eq_doneIn_of_done hs.live (run.trans (run_guardedWrite_exit hs.cpl he))
  · rw [exec_eq_runCommand]
    exact runCommand_eq_doneIn_of_done hs.live (run.trans (run_guardedWrite_handled hs.cpl hx))

/-- Past a query that is passed, the command does what the rest of its rule does. -/
theorem exec_guardedWrite_done {i : Instr} {t : State} {a : Answer} (hs : Supervisor s)
    (run : body i s = guardedWrite q f s) (hq : q s = .pass) (e : f s s = .ok a t) : exec i s = doneIn a t := by
  rw [exec_eq_runCommand]
  exact runCommand_eq_doneIn hs.live ((run.trans (run_guardedWrite_pass hs.cpl hq)).trans e)

theorem exec_guardedWrite_finished {i : Instr} {t : State} {a : Answer} (hs : Supervisor s)
    (run : body i s = guardedWrite q f s) (hq : q s = .pass) (e : f s s = .error (.done a) t) : exec i s = doneIn a t := by
  rw [exec_eq_runCommand]
  exact runCommand_eq_doneIn_of_done hs.live ((run.trans (run_guardedWrite_pass hs.cpl hq)).trans e)

theorem exec_guardedWrite_raised {i : Instr} {t : State} {v : Vector8} {ec : Half} (hs : Supervisor s)
    (run : body i s = guardedWrite q f s) (hq : q s = .pass) (live : t.aborted = false) (hv : v ≠ 14#8)
    (e : f s s = .error (.raise v ec) t) : exec i s = raisedIn v ec t := by
  rw [exec_eq_runCommand]
  exact runCommand_eq_raisedIn hs.live live hv ((run.trans (run_guardedWrite_pass hs.cpl hq)).trans e)

end

/-! ### The writes of this shape (R131, R139, R140, R145, R160, R165, R169) -/

theorem body_wrcr2 (v : Word) : body (.wrcr2 v) = guardedWrite (fun s => icptCr s .cr2 .write s.regs.cr2 v) (fun _ => do
    modifyRegs fun r => { r with cr2 := v }
    pure (.ok 0#64)) := rfl

/-- `WRXCR` is of this shape once CR4.OSXSAVE is set. -/
theorem run_requireOsxsave {s : State} (h : s.regs.osxsave = true) : requireOsxsave s = .ok () s := by
  simp [requireOsxsave, h]

/-! ### Accesses to the debug registers (R174, R175, R178) -/

theorem run_requireAlias {s : State} (h : s.regs.de = false) : requireAlias s = .ok () s := by
  simp [requireAlias, h]

theorem run_generalDetect {s : State} (h : s.regs.gd = false) : generalDetect s = .ok () s := by
  simp [generalDetect, h]

theorem run_drAccess_exit {s : State} (gd : s.regs.gd = false) (cpl : s.ctx.cpl = 0#2) {n : DrNum} {dir : Dir}
    {e : ExitInfo} (he : plainAnswer s (.dr n dir) = some e) :
    drAccess n dir s = .error (.done .vmexit) (s.exited e) := by
  unfold drAccess askPlain
  rw [run_bind_ok (run_generalDetect gd), run_bind_ok (run_requireCpl0 cpl), run_bind_ok (run_get s), he]
  exact run_vmExit e s

/-- An access that `drQuery` lists begins with the stages that reads and writes share, its number resolved. -/
theorem run_body_of_drQuery {i : Instr} {s : State} {n : DrNum} {dir : Dir}
    (h : drQuery s.regs.de i = some (n, dir)) : ∃ f, body i s = (drAccess n dir >>= f) s := by
  cases i with
  | wrdr0 | wrdr1 | wrdr2 | wrdr3 | wrdr6 | wrdr7 => cases h; exact ⟨_, rfl⟩
  | rddr0 | rddr1 | rddr2 | rddr3 | rddr6 | rddr7 => cases h; exact ⟨_, rfl⟩
  | wrdr4 | wrdr5 | rddr4 | rddr5 =>
    cases hde : s.regs.de with
    | true => rw [hde] at h; cases h
    | false =>
      rw [hde] at h
      cases h
      exact ⟨_, run_bind_ok (run_requireAlias hde)⟩
  | _ => cases h

/-! ### What the stages decide -/

/-- Settles O29: each of these rules reaches its query, at CPL 0, in the state it began in. -/
theorem layerDecidesBeforeTheValue : Obligations.LayerDecidesBeforeTheValue := by
  intro s v hs
  refine ⟨?_, ?_, ?_, ?_, ?_, fun osxsave i => ?_, fun gd i n dir e row he => ?_⟩
  · rw [← norm0_eq_cr0Value]
    exact layerDecides_of_run (q := fun s => icptCr s .cr0 .write s.regs.cr0 (norm0 s.cfg.cpuLevel v)) hs rfl
  · exact layerDecides_of_run (q := fun s => icptCr s .cr3 .write s.regs.cr3 v) hs rfl
  · exact layerDecides_of_run (q := fun s => icptCr s .cr4 .write s.regs.cr4 v) hs rfl
  · exact layerDecides_of_run (q := fun s => icptReg s .efer .write s.regs.efer v) hs rfl
  · exact layerDecides_of_run (q := fun s => icptReg s .xss .write s.regs.xss v) hs rfl
  · exact layerDecides_of_run (q := fun s => icptReg s .xcr0 .write s.regs.xcr0 v) hs
      (run_bind_ok (run_requireOsxsave osxsave))
  · obtain ⟨f, run⟩ := run_body_of_drQuery row
    rw [exec_eq_runCommand]
    exact runCommand_eq_doneIn_of_done hs.live (run.trans (run_bind_error (run_drAccess_exit gd hs.cpl he)))

/-- Settles O20: WRCR2 is a guarded write whose value is never tested. -/
theorem wrCr2 : Obligations.WrCr2 :=
  ⟨fun _ _ level => runCommand_otherLevel level _,
    fun _ v hs => layerDecides_of_run hs (congrFun (body_wrcr2 v) _),
    fun _ v hs pass => exec_guardedWrite_done hs (congrFun (body_wrcr2 v) _) pass rfl⟩

end Sys2Proof.Machine
end

section
/-! SUPPORT. The tests on single bits of the values of CR0, CR3 and CR4 as conditions on numbers and bits (R141, R142, R145,
R149, R155), and the validation of the PDPTEs (R142): which entries it reads, and where it ends. -/

namespace Sys2Proof.Machine

/-! ### Bits of a masked value -/

theorem and_eq_zero_iff {w : Nat} {x m : BitVec w} :
    x &&& m = 0#w ↔ ∀ k, m.getLsbD k = true → x.getLsbD k = false := by
  constructor
  · intro h k hk
    have bit := congrArg (BitVec.getLsbD · k) h
    simpa [hk] using bit
  · intro h
    refine BitVec.eq_of_getLsbD_eq fun k _ => ?_
    rw [BitVec.getLsbD_and, BitVec.getLsbD_zero]
    cases hm : m.getLsbD k with
    | false => exact Bool.and_false _
    | true => rw [h k hm, Bool.false_and]

/-- Two values differ inside a mask where one of its bits differs. -/
theorem xor_and_ne_zero_iff {w : Nat} {x y m : BitVec w} :
    (x ^^^ y) &&& m ≠ 0#w ↔ ∃ k, m.getLsbD k = true ∧ x.getLsbD k ≠ y.getLsbD k := by
  rw [ne_eq, and_eq_zero_iff]
  simp only [BitVec.getLsbD_xor, bne_eq_false_iff_eq, not_forall, exists_prop, ne_eq]

/-- Below `PHY_ADDR_WIDTH` (R141, R142). -/
theorem and_abovePhys_eq_zero_iff {c : Config} {x : Word} :
    x &&& abovePhys c = 0#64 ↔ x.toNat < 2 ^ c.phyAddrWidth := by
  have mask (k : Nat) : (abovePhys c).getLsbD k = (decide (k < 64) && decide (c.phyAddrWidth ≤ k)) := by
    simp only [abovePhys, BitVec.getLsbD_shiftLeft, BitVec.getLsbD_allOnes]
    by_cases hk : c.phyAddrWidth ≤ k
    · simp [hk, Nat.not_lt.mpr hk]
      omega
    · simp [hk, Nat.lt_of_not_le hk]
  rw [and_eq_zero_iff]
  constructor
  · intro h
    refine Nat.lt_pow_two_of_testBit _ fun k hk => ?_
    by_cases hlt : k < 64
    · exact h k (by simp [mask, hlt, hk])
    · exact BitVec.getLsbD_of_ge x k (Nat.le_of_not_lt hlt)
  · intro h k hk
    simp only [mask, Bool.and_eq_true, decide_eq_true_eq] at hk
    exact Nat.testBit_lt_two_pow (h.trans_le (Nat.pow_le_pow_right (by omega) hk.2))

theorem extractLsb'_upper_eq_zero_iff {x : Word} {n : Nat} (hn : n ≤ 64) :
    x.extractLsb' n (64 - n) = 0#(64 - n) ↔ x.toNat < 2 ^ n := by
  rw [← BitVec.toNat_inj, BitVec.extractLsb'_toNat, BitVec.toNat_ofNat, Nat.zero_mod, Nat.shiftRight_eq_div_pow]
  have fits : x.toNat / 2 ^ n < 2 ^ (64 - n) := by
    rw [Nat.div_lt_iff_lt_mul (Nat.two_pow_pos n), ← Nat.pow_add, Nat.sub_add_cancel hn]
    exact x.isLt
  rw [Nat.mod_eq_of_lt fits, Nat.div_eq_zero_iff]
  have : 2 ^ n ≠ 0 := (Nat.two_pow_pos n).ne'
  tauto

/-! ### Entries in the history (R60) -/

theorem State.logged_logged (s : State) (l l' : List Event) : (s.logged l).logged l' = s.logged (l ++ l') := by
  simp [State.logged]

theorem State.logged_nil (s : State) : s.logged [] = s := by simp [State.logged]

theorem run_emitIf (b : Bool) (e : Event) (s : State) : emitIf b e s = .ok () (s.logged (if b then [e] else [])) := by
  cases b with
  | true => rfl
  | false => exact congrArg _ s.logged_nil.symm

/-! ### One entry (R142) -/

theorem pdpteBad_eq_false_iff {c : Config} {e : Word} : pdpteBad c e = false ↔ pdpteOk c e := by
  have reserved : e &&& pdpteReserved c = 0#64 ↔ e &&& 0x1E6#64 = 0#64 ∧ e.toNat < 2 ^ c.phyAddrWidth := by
    rw [← and_abovePhys_eq_zero_iff, and_eq_zero_iff, and_eq_zero_iff, and_eq_zero_iff, ← forall_and]
    simp only [pdpteReserved, BitVec.getLsbD_or, Bool.or_eq_true, or_imp]
  unfold pdpteBad pdpteOk
  rw [← reserved]
  cases e.getLsbD 0 <;> simp

theorem run_physRead (a : Word) (s : State) :
    physRead a s = .ok (s.phys.readLE a 8) (s.logged [.memR a 8 .phys]) := rfl

/-! ### The walk from entry `i` on (R142) -/

/-- The reads of `left` entries from entry `i` on. -/
def pdpteReadsFrom (c : Word) (i left : Nat) : List Event :=
  (List.range' i left).map fun k => .memR (pdpteAddr c k) 8 .phys

theorem pdpteReads_eq (c : Word) (n : Nat) : pdpteReads c n = pdpteReadsFrom c 0 n := by
  rw [pdpteReads, List.range_eq_range']
  rfl

/-- The walk stops at a bad entry. -/
theorem run_readPdptes_stop {c : Word} {i : Nat} {s : State} (bad : ¬pdpteOk s.cfg (pdpteAt s c i)) (left : Nat) :
    readPdptes (pdptBase c) (left + 1) i s = .ok none (s.logged (pdpteReadsFrom c i 1)) := by
  have rejected : pdpteBad s.cfg (pdpteAt s c i) = true := by
    rwa [← pdpteBad_eq_false_iff, Bool.not_eq_false] at bad
  unfold readPdptes
  refine (run_bind_ok (run_physRead _ s)).trans ((run_bind_ok (run_get _)).trans ?_)
  exact congrFun (if_pos rejected) _

/-- Past a good entry the walk goes on with the next. -/
theorem run_readPdptes_next {c : Word} {i left : Nat} {s u : State} {es : Option (List Word)}
    (good : pdpteOk s.cfg (pdpteAt s c i))
    (rest : readPdptes (pdptBase c) left (i + 1) (s.logged (pdpteReadsFrom c i 1)) = .ok es u) :
    readPdptes (pdptBase c) (left + 1) i s = .ok (es.map (pdpteAt s c i :: ·)) u := by
  have passed : ¬pdpteBad s.cfg (pdpteAt s c i) = true := by
    rw [pdpteBad_eq_false_iff.mpr good]
    exact Bool.false_ne_true
  unfold readPdptes
  refine (run_bind_ok (run_physRead _ s)).trans ((run_bind_ok (run_get _)).trans ?_)
  refine (congrFun (if_neg passed) _).trans ?_
  exact (run_bind_ok rest).trans (run_pure _ _)

theorem pdpteReadsFrom_succ (c : Word) (i left : Nat) :
    pdpteReadsFrom c i (left + 1) = pdpteReadsFrom c i 1 ++ pdpteReadsFrom c (i + 1) left := rfl

theorem run_readPdptes_ok (c : Word) (left i : Nat) (s : State)
    (good : ∀ k, i ≤ k → k < i + left → pdpteOk s.cfg (pdpteAt s c k)) :
    readPdptes (pdptBase c) left i s
      = .ok (some ((List.range' i left).map (pdpteAt s c))) (s.logged (pdpteReadsFrom c i left)) := by
  induction left generalizing i s with
  | zero => exact congrArg _ s.logged_nil.symm
  | succ left ih =>
    have rest := ih (i + 1) (s.logged (pdpteReadsFrom c i 1)) fun k h1 h2 => good k (by omega) (by omega)
    rw [State.logged_logged, ← pdpteReadsFrom_succ] at rest
    exact run_readPdptes_next (good i (by omega) (by omega)) rest

/-- The first bad entry is `d` entries further on. -/
theorem run_readPdptes_bad (c : Word) (left d i : Nat) (s : State) (hd : d < left)
    (good : ∀ k, i ≤ k → k < i + d → pdpteOk s.cfg (pdpteAt s c k)) (bad : ¬pdpteOk s.cfg (pdpteAt s c (i + d))) :
    readPdptes (pdptBase c) left i s = .ok none (s.logged (pdpteReadsFrom c i (d + 1))) := by
  induction left generalizing d i s with
  | zero => exact absurd hd (Nat.not_lt_zero d)
  | succ left ih =>
    cases d with
    | zero => exact run_readPdptes_stop bad left
    | succ d =>
      have next : i + 1 + d = i + (d + 1) := by omega
      have rest := ih d (i + 1) (s.logged (pdpteReadsFrom c i 1)) (by omega)
        (fun k h1 h2 => good k (by omega) (by omega)) (next ▸ bad)
      rw [State.logged_logged, ← pdpteReadsFrom_succ] at rest
      exact run_readPdptes_next (good i (by omega) (by omega)) rest

/-! ### The whole test (R142) -/

/-- Four good entries are read and handed over, where they are validated at all. -/
theorem run_pdptesIf_ok {b : Bool} {c : Word} {s : State} (h : b = true → PdptesOk s c) :
    pdptesIf b c s = .ok () (s.logged (if b then pdptesLoaded s c else [])) := by
  cases b with
  | false => exact congrArg _ s.logged_nil.symm
  | true =>
    have walk := run_readPdptes_ok c 4 0 s fun k _ hk => h rfl k (by omega)
    refine (run_bind_ok walk).trans ?_
    rw [← pdpteReads_eq]
    exact congrArg _ (s.logged_logged _ _)

/-- The first bad entry rejects the write after the reads up to it. -/
theorem run_pdptesIf_bad {b : Bool} {c : Word} {s : State} {n : Nat} (hb : b = true) (h : FirstBadPdpte s c n) :
    pdptesIf b c s = .error (.raise 13#8 0#16) (s.logged (pdpteReads c (n + 1))) := by
  obtain ⟨hn, good, bad⟩ := h
  have walk := run_readPdptes_bad c 4 n 0 s hn (fun k _ hk => good k (by omega)) (by rwa [Nat.zero_add])
  rw [hb, pdpteReads_eq]
  exact run_bind_ok walk

theorem exists_firstBadPdpte {s : State} {c : Word} (h : ¬PdptesOk s c) : ∃ n, FirstBadPdpte s c n := by
  classical
  simp only [PdptesOk, not_forall, exists_prop] at h
  obtain ⟨hlt, bad⟩ := Nat.find_spec h
  refine ⟨Nat.find h, hlt, fun k hk => ?_, bad⟩
  by_contra hbad
  exact Nat.find_min h hk ⟨by omega, hbad⟩

end Sys2Proof.Machine
end

section
/-! SUPPORT. WRCR0 from a given state (R131 to R138): its rule past the query, one lemma for each way it ends, and the SVM
intercepts of R155. -/

namespace Sys2Proof.Machine

/-! ### The rule past the query (R131) -/

/-- What WRCR0 does once the layer passed it. -/
def cr0Stages (v : Word) (s : State) : M Answer := do
  raiseIf (!legalCr0 s v) 13#8 0#16
  pgTransition s.regs.pg (v.getLsbD 31)
  cr0Pdptes (v.getLsbD 31)
  modifyRegs fun r => { r with cr0 := norm0 s.cfg.cpuLevel v }
  commit0 s.regs.cr0 (norm0 s.cfg.cpuLevel v)
  pure (.ok 0#64)

theorem body_wrcr0 (v : Word) : body (.wrcr0 v)
    = guardedWrite (fun s => icptCr s .cr0 .write s.regs.cr0 (norm0 s.cfg.cpuLevel v)) (cr0Stages v) := rfl

/-- A passed query, as the statements write it and as the rule asks it. -/
theorem cr0Query_pass {s : State} {v : Word}
    (pass : icptCr s .cr0 .write s.regs.cr0 (cr0Value s.cfg.cpuLevel v) = .pass) :
    icptCr s .cr0 .write s.regs.cr0 (norm0 s.cfg.cpuLevel v) = .pass := by
  rw [norm0_eq_cr0Value, pass]

/-! ### The transition of paging (R134, R135) -/

theorem run_longEntry_ok {s : State} (hlme : s.regs.lme = true)
    (pre : s.regs.pae = true ∧ s.ctx.cs.cache.l = false ∧ 3#4 < s.ctx.tr.cache.type) :
    longEntry s = .ok () (s.setRegs { s.regs with efer := s.regs.efer ||| eferLma }) := by
  obtain ⟨hpae, hl, ht⟩ := pre
  have type : ¬s.ctx.tr.cache.type ≤ 3#4 := BitVec.not_le.mpr ht
  simp [longEntry, hlme, hpae, hl, type]

theorem run_longExit_ok {s : State} (pre : s.mode ≠ .long64 ∧ (s.regs.lma = true → s.regs.pcide = false)) :
    longExit s = .ok () (s.setRegs { s.regs with efer := clearBits s.regs.efer eferLma }) := by
  obtain ⟨hm, hp⟩ := pre
  have mode : (s.mode == .long64) = false := beq_eq_false_iff_ne.mpr hm
  cases hlma : s.regs.lma with
  | true => simp [longExit, mode, hlma, hp hlma]
  | false => simp [longExit, mode, hlma, clearBits_eferLma hlma, setRegs_efer_self]

/-- The state between the transition and the commit: only EFER is written (R131). -/
def cr0Transited (s : State) (v : Word) : State := s.setRegs { s.regs with efer := cr0Efer s v }

theorem run_pgTransition_ok {s : State} {v : Word} (entry : LongEntryOk s v) (exit : LongExitOk s v) :
    pgTransition s.regs.pg (v.getLsbD 31) s = .ok () (cr0Transited s v) := by
  rw [pgTransition_eq, cr0Transited]
  cases hl : cr0Leaves s v with
  | true =>
    have he : cr0Enters s v = false := by
      simp only [cr0Leaves, Bool.and_eq_true] at hl
      simp only [cr0Enters, hl.1, Bool.not_true, Bool.false_and]
    rw [he, if_neg Bool.false_ne_true, if_pos rfl, cr0Efer_of_leaves hl]
    exact run_longExit_ok (exit hl)
  | false =>
    cases he : cr0Enters s v with
    | false =>
      rw [if_neg Bool.false_ne_true, if_neg Bool.false_ne_true, cr0Efer_of_stays (by rw [he, Bool.false_and]) hl]
      rfl
    | true =>
      rw [if_pos rfl]
      cases hlme : s.regs.lme with
      | true =>
        rw [cr0Efer_of_enters he hlme]
        exact run_longEntry_ok hlme (entry he hlme)
      | false =>
        rw [cr0Efer_of_stays (by rw [hlme, Bool.and_false]) hl]
        simp [longEntry, hlme, setRegs_efer_self]

theorem run_pgTransition_raise {s : State} {v : Word} (h : ¬LongEntryOk s v ∨ ¬LongExitOk s v) :
    pgTransition s.regs.pg (v.getLsbD 31) s = .error (.raise 13#8 0#16) s := by
  obtain e | ⟨⟨entry, exit⟩, -⟩ := pgTransition_cases s v
  · exact e
  · exact absurd h (by simp [entry, exit])

/-- The PDPTE test runs in the state after the transition (R136). -/
theorem run_cr0Pdptes (s : State) (v : Word) :
    cr0Pdptes (v.getLsbD 31) (cr0Transited s v) = pdptesIf (cr0Walks s v) s.regs.cr3 (cr0Transited s v) := rfl

/-! ### The commit (R138) -/

theorem run_commit0 (old new : Word) (s : State) :
    commit0 old new s = .ok () (s.logged ((if (old ^^^ new) &&& 0x80010001#64 ≠ 0#64 then [.tlbFlush .all] else [])
      ++ [.modeChange s.mode])) := by
  refine (run_bind_ok (run_emitIf _ _ s)).trans ((run_emitMode _).trans ?_)
  simp only [bne_iff_ne]
  exact congrArg _ (s.logged_logged _ _)

/-! ### How the rule ends -/

/-- Past the legality test and the transition (R132, R134, R135). -/
theorem run_cr0Stages {s : State} {v : Word} (legal : Cr0Legal s v) (entry : LongEntryOk s v) (exit : LongExitOk s v) :
    cr0Stages v s s = (pdptesIf (cr0Walks s v) s.regs.cr3 >>= fun _ => do
      modifyRegs fun r => { r with cr0 := norm0 s.cfg.cpuLevel v }
      commit0 s.regs.cr0 (norm0 s.cfg.cpuLevel v)
      pure (.ok 0#64)) (cr0Transited s v) := by
  unfold cr0Stages
  rw [(legalCr0_iff s v).mpr legal]
  exact (run_bind_ok (run_raiseIf_false _ _ s)).trans (run_bind_ok (run_pgTransition_ok entry exit))

theorem run_cr0Stages_ok {s : State} {v : Word} (h : Cr0Accepts s v) :
    cr0Stages v s s = .ok (.ok 0#64) (cr0Accepted s v) := by
  rw [run_cr0Stages h.toCr0Legal h.entry h.exit, run_bind_ok (run_pdptesIf_ok (s := cr0Transited s v) h.pdptes),
    run_bind_ok (run_modifyRegs _ _), run_bind_ok (run_commit0 _ _ _), run_pure, norm0_eq_cr0Value]
  simp only [cr0Accepted, List.append_assoc]
  exact congrArg _
    (State.logged_logged (s.setRegs { s.regs with cr0 := cr0Value s.cfg.cpuLevel v, efer := cr0Efer s v }) _ _)

theorem run_cr0Stages_raise {s : State} {v : Word} (h : ¬Cr0Legal s v ∨ ¬LongEntryOk s v ∨ ¬LongExitOk s v) :
    cr0Stages v s s = .error (.raise 13#8 0#16) s := by
  unfold cr0Stages
  cases legal : legalCr0 s v with
  | false => rfl
  | true =>
    have refused : ¬LongEntryOk s v ∨ ¬LongExitOk s v := h.resolve_left (not_not_intro ((legalCr0_iff s v).mp legal))
    exact (run_bind_ok (run_raiseIf_false _ _ s)).trans (run_bind_error (run_pgTransition_raise refused))

/-- A bad PDPTE: where the PDPTEs are validated the transition wrote nothing. -/
theorem run_cr0Stages_badPdpte {s : State} {v : Word} {n : Nat} (legal : Cr0Legal s v) (entry : LongEntryOk s v)
    (exit : LongExitOk s v) (walks : cr0Walks s v = true) (bad : FirstBadPdpte s s.regs.cr3 n) :
    cr0Stages v s s = .error (.raise 13#8 0#16) (s.logged (pdpteReads s.regs.cr3 (n + 1))) := by
  have same : cr0Transited s v = s := by rw [cr0Transited, cr0Efer_of_walks walks, setRegs_efer_self]
  rw [run_cr0Stages legal entry exit, same]
  exact run_bind_error (run_pdptesIf_bad walks bad)

/-! ### The command -/

/-- Settles O17: past the query the rule runs to its commit, stage by stage. -/
theorem wrCr0Accepts : Obligations.WrCr0Accepts := fun _ v hs pass accepts =>
  exec_guardedWrite_done hs (congrFun (body_wrcr0 v) _) (cr0Query_pass pass) (run_cr0Stages_ok accepts)

theorem exec_wrcr0_rejected {s : State} {v : Word} (hs : Supervisor s)
    (pass : icptCr s .cr0 .write s.regs.cr0 (cr0Value s.cfg.cpuLevel v) = .pass)
    (h : ¬Cr0Legal s v ∨ ¬LongEntryOk s v ∨ ¬LongExitOk s v) : exec (.wrcr0 v) s = raisedIn 13#8 0#16 s :=
  exec_guardedWrite_raised hs (congrFun (body_wrcr0 v) _) (cr0Query_pass pass) hs.live (by decide) (run_cr0Stages_raise h)

/-- Settles O18: the privilege check, the legality test and the transition each raise before anything is written. -/
theorem wrCr0Rejects : Obligations.WrCr0Rejects :=
  ⟨fun _ _ level => runCommand_otherLevel level _, fun _ _ => exec_wrcr0_rejected⟩

theorem exec_wrcr0_badPdpte {s : State} {v : Word} {n : Nat} (hs : Supervisor s)
    (pass : icptCr s .cr0 .write s.regs.cr0 (cr0Value s.cfg.cpuLevel v) = .pass) (legal : Cr0Legal s v)
    (entry : LongEntryOk s v) (exit : LongExitOk s v) (walks : cr0Walks s v = true)
    (bad : FirstBadPdpte s s.regs.cr3 n) :
    exec (.wrcr0 v) s = raisedIn 13#8 0#16 (s.logged (pdpteReads s.regs.cr3 (n + 1))) :=
  exec_guardedWrite_raised hs (congrFun (body_wrcr0 v) _) (cr0Query_pass pass) hs.live (by decide)
    (run_cr0Stages_badPdpte legal entry exit walks bad)

/-! ### The SVM intercepts (R155) -/

/-- A bit other than TS and MP changes. -/
theorem cr0SelChange_iff {old new : Word} :
    (old ^^^ new) &&& ~~~0xA#64 ≠ 0#64 ↔ ∃ k, k ≠ 1 ∧ k ≠ 3 ∧ old.getLsbD k ≠ new.getLsbD k := by
  have mask : ∀ k : Fin 64, (~~~0xA#64).getLsbD k.val = true ↔ k.val ≠ 1 ∧ k.val ≠ 3 := by decide
  rw [xor_and_ne_zero_iff]
  refine exists_congr fun k => ?_
  by_cases hk : k < 64
  · rw [mask ⟨k, hk⟩, and_assoc]
  · have same : old.getLsbD k = new.getLsbD k := by
      rw [BitVec.getLsbD_of_ge _ _ (Nat.le_of_not_lt hk), BitVec.getLsbD_of_ge _ _ (Nat.le_of_not_lt hk)]
    simp [same]

theorem svmCr0Write_plain {j : Inputs} (guest : j.inSvmGuest = true) (plain : j.icpt.cr0Write = true) (old new : Word) :
    svmCr0Write j old new = .exit ⟨.cr0Write, j.icpt.cr0Qual⟩ := by
  simp [svmCr0Write, guest, plain]

theorem svmCr0Write_selective {j : Inputs} (guest : j.inSvmGuest = true) (plain : j.icpt.cr0Write = false)
    (selective : j.icpt.cr0SelWrite = true) {old new : Word}
    (changed : ∃ k, k ≠ 1 ∧ k ≠ 3 ∧ old.getLsbD k ≠ new.getLsbD k) :
    svmCr0Write j old new = .exit ⟨.cr0SelectiveWrite, j.icpt.cr0Qual⟩ := by
  have differ : ((old ^^^ new) &&& ~~~0xA#64 != 0#64) = true := bne_iff_ne.mpr (cr0SelChange_iff.mpr changed)
  unfold svmCr0Write
  rw [guest, plain, selective, differ]
  rfl

theorem svmCr0Write_pass {j : Inputs} {old new : Word}
    (silent : j.inSvmGuest = true → j.icpt.cr0Write = false
      ∧ (j.icpt.cr0SelWrite = true → ¬∃ k, k ≠ 1 ∧ k ≠ 3 ∧ old.getLsbD k ≠ new.getLsbD k)) :
    svmCr0Write j old new = .pass := by
  cases guest : j.inSvmGuest with
  | false => simp [svmCr0Write, guest]
  | true =>
    obtain ⟨plain, unchanged⟩ := silent guest
    cases selective : j.icpt.cr0SelWrite with
    | false => simp [svmCr0Write, plain, selective]
    | true =>
      have agree : ((old ^^^ new) &&& ~~~0xA#64 != 0#64) = false :=
        bne_eq_false_iff_eq.mpr (not_not.mp (mt cr0SelChange_iff.mp (unchanged selective)))
      unfold svmCr0Write
      rw [guest, plain, selective, agree]
      rfl

/-- Under SVM a CR0 write is asked about as R155 has it, in any guest. -/
theorem icptCr_svm {s : State} (svm : s.cfg.nested = .svm) (guest : s.inp.inGuest = true) (old new : Word) :
    icptCr s .cr0 .write old new
      = svmCr0Answer (svmCr0Write s.inp old new) (regAnswer s (.cr .cr0 .write old new)) := by
  simp [icptCr, State.icptOn, svm, guest]

/-- Where no intercept of R155 fires, an answer that does not handle the write passes it (log entry 31). -/
theorem svmCr0Answer_pass {listed : RegAnswer} (h : ∀ x b, svmCr0Answer .pass listed ≠ .handled x b) :
    svmCr0Answer .pass listed = .pass := by
  cases listed with
  | pass => rfl
  | exit e => rfl
  | handled x b => exact absurd rfl (h x b)

/-- Settles O19: under SVM the query is answered by the two intercepts and then by the list, from which no exit is taken. -/
theorem svmCr0Intercept : Obligations.SvmCr0Intercept := by
  intro s v hs svm guest
  have decided := (layerDecidesBeforeTheValue s v hs).1
  rw [icptCr_svm svm guest] at decided
  refine ⟨fun svmGuest plain => ?_, fun svmGuest plain selective changed => ?_, fun silent => ?_⟩
  · exact decided.1 _ (by rw [svmCr0Write_plain svmGuest plain]; rfl)
  · exact decided.1 _ (by rw [svmCr0Write_selective svmGuest plain selective changed]; rfl)
  · have query := icptCr_svm svm guest s.regs.cr0 (cr0Value s.cfg.cpuLevel v)
    rw [svmCr0Write_pass silent] at query decided
    refine ⟨fun x b handled => decided.2 x b (query ▸ handled), fun unhandled accepts => ?_⟩
    refine wrCr0Accepts s v hs (query.trans (svmCr0Answer_pass ?_)) accepts
    exact fun x b => query ▸ unhandled x b

end Sys2Proof.Machine
end

section
/-! SUPPORT. WRCR3 and WRCR4 from a given state (R140 to R149): their rules past the query, one lemma for each way they end,
and the rejection by a bad PDPTE that they share with WRCR0. -/

namespace Sys2Proof.Machine

/-! ### CR3: its stages (R140, R141, R143) -/

/-- What WRCR3 does once the layer passed it. -/
def cr3Stages (v : Word) (s : State) : M Answer := do
  requireLegalCr3 (cr3Value s.regs.pcide v)
  pdptesIf (s.regs.pg && s.regs.pae && !s.longMode) (cr3Value s.regs.pcide v)
  modifyRegs fun r => { r with cr3 := cr3Value s.regs.pcide v }
  flushForCr3 (noFlushHint s.regs.pcide v)
  pure (.ok 0#64)

theorem body_wrcr3 (v : Word) :
    body (.wrcr3 v) = guardedWrite (fun s => icptCr s .cr3 .write s.regs.cr3 v) (cr3Stages v) := rfl

theorem run_requireLegalCr3_long {s : State} {v : Word} (long : s.regs.efer.getLsbD 10 = true) :
    requireLegalCr3 v s = raiseIf (v &&& abovePhys s.cfg != 0#64) 13#8 0#16 s :=
  (run_bind_ok (run_get s)).trans (congrFun (if_pos long) s)

theorem run_requireLegalCr3_legacy {s : State} {v : Word} (legacy : s.regs.efer.getLsbD 10 = false) :
    requireLegalCr3 v s = abortIf (v.extractLsb' 32 32 != 0#32) .badCommand s :=
  (run_bind_ok (run_get s)).trans (congrFun (if_neg (by rw [State.longMode, ControlRegs.lma, legacy]; simp)) s)

theorem run_requireLegalCr3_ok {s : State} {v : Word}
    (long : s.regs.efer.getLsbD 10 = true → v.toNat < 2 ^ s.cfg.phyAddrWidth)
    (legacy : s.regs.efer.getLsbD 10 = false → v.toNat < 2 ^ 32) : requireLegalCr3 v s = .ok () s := by
  cases mode : s.regs.efer.getLsbD 10 with
  | true =>
    have fits : (v &&& abovePhys s.cfg != 0#64) = false :=
      bne_eq_false_iff_eq.mpr (and_abovePhys_eq_zero_iff.mpr (long mode))
    rw [run_requireLegalCr3_long mode, fits]
    rfl
  | false =>
    have fits : (v.extractLsb' 32 32 != 0#32) = false :=
      bne_eq_false_iff_eq.mpr ((extractLsb'_upper_eq_zero_iff (n := 32) (by decide)).mpr (legacy mode))
    rw [run_requireLegalCr3_legacy mode, fits]
    rfl

theorem run_requireLegalCr3_raise {s : State} {v : Word} (long : s.regs.efer.getLsbD 10 = true)
    (large : 2 ^ s.cfg.phyAddrWidth ≤ v.toNat) : requireLegalCr3 v s = .error (.raise 13#8 0#16) s := by
  have high : (v &&& abovePhys s.cfg != 0#64) = true :=
    bne_iff_ne.mpr (mt and_abovePhys_eq_zero_iff.mp (Nat.not_lt.mpr large))
  rw [run_requireLegalCr3_long long, high]
  rfl

theorem run_requireLegalCr3_abort {s : State} {v : Word} (legacy : s.regs.efer.getLsbD 10 = false)
    (large : 2 ^ 32 ≤ v.toNat) : requireLegalCr3 v s = .error (.done .abort) (s.abortedBy .badCommand) := by
  have high : (v.extractLsb' 32 32 != 0#32) = true :=
    bne_iff_ne.mpr (mt (extractLsb'_upper_eq_zero_iff (n := 32) (by decide)).mp (Nat.not_lt.mpr large))
  rw [run_requireLegalCr3_legacy legacy, high]
  rfl

/-- The flush depends on CR4 alone, which the rule leaves as it was. -/
theorem run_flushForCr3 {s t : State} (same : t.regs.cr4 = s.regs.cr4) (v : Word) :
    flushForCr3 (noFlushHint s.regs.pcide v) t = .ok () (t.logged (cr3Flush s v)) := by
  refine (run_bind_ok (run_get t)).trans ((run_emitIf _ _ t).trans ?_)
  unfold noFlushHint cr3Flush ControlRegs.pcide ControlRegs.pge
  rw [same]
  cases s.regs.cr4.getLsbD 17 && v.getLsbD 63 with
  | true => rfl
  | false => cases s.regs.cr4.getLsbD 7 <;> rfl

/-! ### CR3: how the rule ends -/

theorem run_cr3Stages_ok {s : State} {v : Word} (h : Cr3Accepts s v) :
    cr3Stages v s s = .ok (.ok 0#64) ((s.setRegs { s.regs with cr3 := cr3Stored s v }).logged
      ((if cr3Walks s then pdptesLoaded s (cr3Stored s v) else []) ++ cr3Flush s v)) := by
  obtain ⟨long, legacy, pdptes⟩ := h
  have legal : requireLegalCr3 (cr3Value s.regs.pcide v) s = .ok () s := run_requireLegalCr3_ok long legacy
  have walk := run_pdptesIf_ok (b := cr3Walks s) pdptes
  refine (run_bind_ok legal).trans ((run_bind_ok walk).trans ((run_bind_ok (run_modifyRegs _ _)).trans ?_))
  refine (run_bind_ok (run_flushForCr3 (s := s) ?same v)).trans ((run_pure _ _).trans (congrArg _ ?_))
  · rfl
  · exact State.logged_logged (s.setRegs { s.regs with cr3 := cr3Stored s v }) _ _

theorem run_cr3Stages_badPdpte {s : State} {v : Word} {n : Nat} (small : (cr3Stored s v).toNat < 2 ^ 32)
    (walks : cr3Walks s = true) (bad : FirstBadPdpte s (cr3Stored s v) n) :
    cr3Stages v s s = .error (.raise 13#8 0#16) (s.logged (pdpteReads (cr3Stored s v) (n + 1))) := by
  have legacy : s.regs.efer.getLsbD 10 = false := by
    simp only [cr3Walks, Bool.and_eq_true, Bool.not_eq_true'] at walks
    exact walks.2
  have legal : requireLegalCr3 (cr3Value s.regs.pcide v) s = .ok () s :=
    run_requireLegalCr3_ok (fun long => absurd (long.symm.trans legacy) (by decide)) fun _ => small
  exact (run_bind_ok legal).trans (run_bind_error (run_pdptesIf_bad walks bad))

/-- Settles O21: past the query the rule tests the value and the PDPTEs, writes CR3 and flushes. -/
theorem wrCr3Accepts : Obligations.WrCr3Accepts := fun _ v hs pass accepts =>
  exec_guardedWrite_done hs (congrFun (body_wrcr3 v) _) pass (run_cr3Stages_ok accepts)

/-! ### CR4: its stages (R145 to R149) -/

/-- What WRCR4 does once the layer passed it. -/
def cr4Stages (v : Word) (s : State) : M Answer := do
  raiseIf (!legalCr4 s v) 13#8 0#16
  pdptesIf (cr4FlushChange s.regs.cr4 v && s.regs.pg && v.getLsbD 5 && !s.longMode) s.regs.cr3
  modifyRegs fun r => { r with cr4 := v }
  emitIf (cr4FlushChange s.regs.cr4 v) (.tlbFlush .all)
  emitMode
  pure (.ok 0#64)

theorem body_wrcr4 (v : Word) :
    body (.wrcr4 v) = guardedWrite (fun s => icptCr s .cr4 .write s.regs.cr4 v) (cr4Stages v) := rfl

/-- The mask of R145 is the five bits that the statements list. -/
theorem cr4FlushChange_eq (s : State) (v : Word) : cr4FlushChange s.regs.cr4 v = cr4Changes s v := by
  have mask : ∀ k : Fin 64, (0x1200B0#64).getLsbD k.val = true ↔ k.val ∈ [4, 5, 7, 17, 20] := by decide
  rw [Bool.eq_iff_iff, cr4FlushChange, bne_iff_ne, xor_and_ne_zero_iff, cr4Changes, List.any_eq_true]
  refine exists_congr fun k => ?_
  rw [bne_iff_ne]
  refine and_congr_left fun differ => ?_
  have hk : k < 64 := by
    by_contra hk
    refine differ ?_
    rw [BitVec.getLsbD_of_ge _ _ (Nat.le_of_not_lt hk), BitVec.getLsbD_of_ge _ _ (Nat.le_of_not_lt hk)]
  exact mask ⟨k, hk⟩

/-- Past the legality test (R147), the tests written as the statements write them. -/
theorem run_cr4Stages {s : State} {v : Word} (legal : Cr4Legal s v) :
    cr4Stages v s s = (pdptesIf (cr4Walks s v) s.regs.cr3 >>= fun _ => do
      modifyRegs fun r => { r with cr4 := v }
      emitIf (cr4Changes s v) (.tlbFlush .all)
      emitMode
      pure (.ok 0#64)) s := by
  unfold cr4Stages
  rw [(legalCr4_iff s v).mpr legal, cr4FlushChange_eq]
  exact run_bind_ok (run_raiseIf_false _ _ s)

theorem run_cr4Stages_ok {s : State} {v : Word} (legal : Cr4Legal s v)
    (pdptes : cr4Walks s v = true → PdptesOk s s.regs.cr3) :
    cr4Stages v s s = .ok (.ok 0#64) ((s.setRegs { s.regs with cr4 := v }).logged
      ((if cr4Walks s v then pdptesLoaded s s.regs.cr3 else [])
        ++ (if cr4Changes s v then [.tlbFlush .all] else []) ++ [.modeChange s.mode])) := by
  rw [run_cr4Stages legal, run_bind_ok (run_pdptesIf_ok pdptes), run_bind_ok (run_modifyRegs _ _),
    run_bind_ok (run_emitIf _ _ _), run_bind_ok (run_emitMode _), run_pure]
  simp only [List.append_assoc]
  refine congrArg _ ((State.logged_logged _ _ _).trans ?_)
  exact State.logged_logged (s.setRegs { s.regs with cr4 := v }) _ _

theorem run_cr4Stages_raise {s : State} {v : Word} (h : ¬Cr4Legal s v) :
    cr4Stages v s s = .error (.raise 13#8 0#16) s := by
  have illegal : legalCr4 s v = false := Bool.eq_false_iff.mpr (mt (legalCr4_iff s v).mp h)
  unfold cr4Stages
  rw [illegal]
  rfl

theorem run_cr4Stages_badPdpte {s : State} {v : Word} {n : Nat} (legal : Cr4Legal s v) (walks : cr4Walks s v = true)
    (bad : FirstBadPdpte s s.regs.cr3 n) :
    cr4Stages v s s = .error (.raise 13#8 0#16) (s.logged (pdpteReads s.regs.cr3 (n + 1))) := by
  rw [run_cr4Stages legal]
  exact run_bind_error (run_pdptesIf_bad walks bad)

/-- Settles O22: past the query the rule tests the value and the PDPTEs, writes CR4, flushes and reports the mode. -/
theorem wrCr4Accepts : Obligations.WrCr4Accepts := fun _ v hs pass legal pdptes =>
  exec_guardedWrite_done hs (congrFun (body_wrcr4 v) _) pass (run_cr4Stages_ok legal pdptes)

/-! ### Rejections -/

theorem exec_wrcr4_rejected {s : State} {v : Word} (hs : Supervisor s)
    (pass : icptCr s .cr4 .write s.regs.cr4 v = .pass) (h : ¬Cr4Legal s v) : exec (.wrcr4 v) s = raisedIn 13#8 0#16 s :=
  exec_guardedWrite_raised hs (congrFun (body_wrcr4 v) _) pass hs.live (by decide) (run_cr4Stages_raise h)

theorem exec_wrcr4_badPdpte {s : State} {v : Word} {n : Nat} (hs : Supervisor s)
    (pass : icptCr s .cr4 .write s.regs.cr4 v = .pass) (legal : Cr4Legal s v) (walks : cr4Walks s v = true)
    (bad : FirstBadPdpte s s.regs.cr3 n) :
    exec (.wrcr4 v) s = raisedIn 13#8 0#16 (s.logged (pdpteReads s.regs.cr3 (n + 1))) :=
  exec_guardedWrite_raised hs (congrFun (body_wrcr4 v) _) pass hs.live (by decide) (run_cr4Stages_badPdpte legal walks bad)

/-- Settles O23: the privilege check and the value tests end the command in the state it began in. -/
theorem wrCr3AndWrCr4Reject : Obligations.WrCr3AndWrCr4Reject := by
  refine ⟨fun s v level => ⟨runCommand_otherLevel level _, runCommand_otherLevel level _⟩, fun s v hs pass long large => ?_,
    fun s v hs pass legacy large => ?_, fun s v => exec_wrcr4_rejected⟩
  · exact exec_guardedWrite_raised hs (congrFun (body_wrcr3 v) s) pass hs.live (by decide)
      (run_bind_error (run_requireLegalCr3_raise long large))
  · exact exec_guardedWrite_finished hs (congrFun (body_wrcr3 v) s) pass
      (run_bind_error (run_requireLegalCr3_abort legacy large))

/-- Settles O24: the three rules reach the PDPTE test with no register written, and the test stops at the first bad entry. -/
theorem badPdpteRejects : Obligations.BadPdpteRejects := by
  refine ⟨fun s v n => exec_wrcr0_badPdpte, fun s v n hs pass small walks bad => ?_, fun s v n => exec_wrcr4_badPdpte⟩
  exact exec_guardedWrite_raised hs (congrFun (body_wrcr3 v) s) pass hs.live (by decide)
    (run_cr3Stages_badPdpte small walks bad)

end Sys2Proof.Machine
end

section
/-! SUPPORT. WRCR8 and RDCR from a given state (R150, R153): what the layer's three answers and the task priority do. -/

namespace Sys2Proof.Machine

/-! ### WRCR8: its stages (R150) -/

/-- What WRCR8 does once its feature and its privilege level are checked. -/
def cr8Stages (v : Word) (s : State) : M Answer := do
  obeyCr8Write (icptCr s .cr8 .write (tprToCr8 s.tpr) v)
  raiseIf (v.extractLsb' 4 60 != 0#60) 13#8 0#16
  setTaskPriority (v.extractLsb' 0 4 ++ 0#4)
  pure (.ok 0#64)

theorem run_wrcr8_noFeature {s : State} (v : Word) (h : s.cfg.has .x86_64 = false) :
    wrcr8 v s = .error (.raise 6#8 0#16) s := by
  unfold wrcr8
  rw [run_bind_ok (run_get s), h]
  rfl

/-- The feature check comes before the privilege check. -/
theorem run_wrcr8_feature {s : State} (v : Word) (h : s.cfg.has .x86_64 = true) :
    wrcr8 v s = (requireCpl0 >>= fun _ => cr8Stages v s) s := by
  unfold wrcr8
  rw [run_bind_ok (run_get s), h]
  exact run_bind_ok (run_raiseIf_false _ _ s)

theorem run_wrcr8 {s : State} (v : Word) (h : s.cfg.has .x86_64 = true) (cpl : s.ctx.cpl = 0#2) :
    wrcr8 v s = cr8Stages v s s :=
  (run_wrcr8_feature v h).trans (run_bind_ok (run_requireCpl0 cpl))

theorem setVmxVTpr_eq (b : Bool) (s : State) : setVmxVTpr b s
    = if b = true ∧ s.cfg.nested = .vmx then s.setSched { s.sched with pending := s.sched.pending ||| 0x1000#16 }
      else s := by
  simp only [setVmxVTpr, Bool.and_eq_true, beq_iff_eq]

theorem run_obeyCr8Write_handled (x : Word) (b : Bool) (s : State) :
    obeyCr8Write (.handled x b) s = .error (.done (.ok 0#64)) (setVmxVTpr b s) :=
  run_bind_ok (run_modify _ s)

/-- The low four bits of a value, as the upper half of the task priority (R25). -/
theorem cr8Priority_eq (v : Word) : v.extractLsb' 0 4 ++ 0#4 = BitVec.ofNat 8 (16 * v.toNat) := by
  refine BitVec.eq_of_toNat_eq ?_
  rw [BitVec.toNat_append, BitVec.extractLsb'_toNat, BitVec.toNat_ofNat, BitVec.toNat_ofNat, Nat.shiftRight_zero,
    Nat.zero_mod, Nat.or_zero, Nat.shiftLeft_eq]
  omega

theorem usesVTpr_iff (s : State) : s.usesVTpr = true ↔ s.inp.inSvmGuest = true ∧ s.inp.svmVIntrMasking = true :=
  Bool.and_eq_true_iff

theorem run_setTaskPriority_virtual {s : State} (h : s.usesVTpr = true) (t : BitVec 8) :
    setTaskPriority t s = .ok () ((s.setVTpr t).logged [.setVTpr t]) :=
  (run_bind_ok (run_get s)).trans (congrFun (if_pos h) s)

theorem run_setTaskPriority_real {s : State} (h : ¬s.usesVTpr = true) (t : BitVec 8) :
    setTaskPriority t s = .ok () ((s.setTpr t).logged [.setTpr t]) :=
  (run_bind_ok (run_get s)).trans (congrFun (if_neg h) s)

/-! ### WRCR8: past the query -/

section
variable {s : State} {v : Word} (pass : icptCr s .cr8 .write (tprToCr8 s.tpr) v = .pass)
include pass

theorem run_cr8Stages_large (large : 16 ≤ v.toNat) : cr8Stages v s s = .error (.raise 13#8 0#16) s := by
  have high : (v.extractLsb' 4 60 != 0#60) = true :=
    bne_iff_ne.mpr (mt (extractLsb'_upper_eq_zero_iff (n := 4) (by decide)).mp (Nat.not_lt.mpr large))
  unfold cr8Stages
  rw [pass, high]
  rfl

theorem run_cr8Stages_small (small : v.toNat < 16) {t : State}
    (e : setTaskPriority (BitVec.ofNat 8 (16 * v.toNat)) s = .ok () t) : cr8Stages v s s = .ok (.ok 0#64) t := by
  have fits : (v.extractLsb' 4 60 != 0#60) = false :=
    bne_eq_false_iff_eq.mpr ((extractLsb'_upper_eq_zero_iff (n := 4) (by decide)).mpr small)
  unfold cr8Stages
  rw [pass, fits, cr8Priority_eq]
  exact (run_bind_ok (run_pure _ s)).trans ((run_bind_ok (run_raiseIf_false _ _ s)).trans (run_bind_ok e))

end

/-- Settles O25: the checks of the feature and the level, then each answer of the layer, then the value. -/
theorem wrCr8 : Obligations.WrCr8 := by
  refine ⟨fun s v feature => ?_, fun s v feature level => ?_, fun s v feature hs => ?_⟩
  · exact runCommand_eq_raisedIn_same (by decide) (run_wrcr8_noFeature v feature)
  · exact runCommand_eq_raisedIn_same (by decide)
      ((run_wrcr8_feature v feature).trans (run_bind_error (run_requireCpl0_raise level)))
  have run := run_wrcr8 v feature hs.cpl
  refine ⟨fun e answer => ?_, fun x b answer => ?_, fun pass large => ?_, fun pass small virtual => ?_,
    fun pass small real => ?_⟩
  · refine runCommand_eq_doneIn_of_done hs.live (run.trans (run_bind_error ?_))
    exact answer ▸ run_vmExit e s
  · refine runCommand_eq_doneIn_of_done hs.live (run.trans (run_bind_error ?_))
    exact setVmxVTpr_eq b s ▸ answer ▸ run_obeyCr8Write_handled x b s
  · exact runCommand_eq_raisedIn_same (by decide) (run.trans (run_cr8Stages_large pass large))
  · exact runCommand_eq_doneIn hs.live
      (run.trans (run_cr8Stages_small pass small (run_setTaskPriority_virtual ((usesVTpr_iff s).mpr virtual) _)))
  · exact runCommand_eq_doneIn hs.live
      (run.trans (run_cr8Stages_small pass small (run_setTaskPriority_real (mt (usesVTpr_iff s).mp real) _)))

/-! ### RDCR (R153) -/

theorem run_rdcr {s : State} (n : CrNum) (cpl : s.ctx.cpl = 0#2) :
    rdcr n s = obeyRead (icptCr s n .read (crValue n s) 0#64) (crValue n s) s :=
  (run_bind_ok (run_requireCpl0 cpl)).trans (run_bind_ok (run_get s))

/-- A read of a register that exists: the privilege check, the query, and the answer or the present value. -/
theorem readsCr_of_run {i : Instr} {n : CrNum} {s : State} (run : body i s = rdcr n s) : ReadsCr i n (crValue n) s := by
  refine ⟨fun level => ?_, fun hs => ⟨fun pass => ?_, fun x b handled => ?_, fun e exit => ?_⟩⟩ <;>
    rw [exec_eq_runCommand]
  · exact runCommand_eq_raisedIn_same (by decide) (run.trans (run_bind_error (run_requireCpl0_raise level)))
  · refine runCommand_eq_doneIn hs.live (run.trans ((run_rdcr n hs.cpl).trans ?_))
    rw [pass]
    rfl
  · refine runCommand_eq_doneIn hs.live (run.trans ((run_rdcr n hs.cpl).trans ?_))
    rw [handled]
    rfl
  · refine runCommand_eq_doneIn_of_done hs.live (run.trans ((run_rdcr n hs.cpl).trans ?_))
    rw [exit]
    exact run_vmExit e s

theorem run_rdcr8_feature {s : State} (h : s.cfg.has .x86_64 = true) : rdcr8 s = rdcr .cr8 s := by
  unfold rdcr8
  rw [run_bind_ok (run_get s), h]
  exact run_bind_ok (run_raiseIf_false _ _ s)

theorem run_rdcr8_noFeature {s : State} (h : s.cfg.has .x86_64 = false) : rdcr8 s = .error (.raise 6#8 0#16) s := by
  unfold rdcr8
  rw [run_bind_ok (run_get s), h]
  rfl

theorem crValue_cr8 : crValue .cr8 = fun s =>
    ((if s.inp.inSvmGuest = true ∧ s.inp.svmVIntrMasking = true then s.vtpr else s.tpr).extractLsb' 4 4).setWidth 64 := by
  funext s
  simp only [crValue, tprToCr8, usesVTpr_iff]

/-- Settles O26: one rule for the five registers, `raise #UD(0)` for the other numbers. -/
theorem rdCr : Obligations.RdCr := by
  refine ⟨fun s => readsCr_of_run (n := .cr0) rfl, fun s => readsCr_of_run (n := .cr2) rfl,
    fun s => readsCr_of_run (n := .cr3) rfl, fun s => readsCr_of_run (n := .cr4) rfl, fun s feature => ?_,
    fun s feature => ?_, exec_of_undefinedRow rfl, exec_of_undefinedRow rfl, fun s _ => exec_of_undefinedRow rfl s,
    exec_of_undefinedRow rfl, fun s _ => exec_of_undefinedRow rfl s, fun s _ => exec_of_undefinedRow rfl s⟩
  · rw [← crValue_cr8]
    exact readsCr_of_run (run_rdcr8_feature feature)
  · exact runCommand_eq_raisedIn_same (by decide) (run_rdcr8_noFeature feature)

end Sys2Proof.Machine
end

section
/-! SUPPORT. The testable properties of R154: a CR0 or CR4 write that answers `OK` was accepted, and its entries in the history
are those of the acceptance. -/

namespace Sys2Proof.Machine

/-- An exception, delivered or not, is never answered `OK` (R110, R262). -/
theorem kind_ne_ok_of_raisedIn {v : Vector8} {ec : Half} {s t : State} (live : s.aborted = false) (hv : v ≠ 14#8)
    (e : raisedIn v ec s = .next t) : t.kind ≠ 0#4 := by
  rw [raisedIn_eq live hv] at e
  obtain ⟨a, s', rfl, loud⟩ := not_quiet_of_exception e
  rw [State.kind_respond]
  exact fun ok => loud (.inl ok)

/-- A command that answers `OK` did not raise. -/
theorem not_raised_of_ok {i : Instr} {s t : State} (e : exec i s = .next t) (hk : t.kind = 0#4) {v : Vector8} {ec : Half}
    (hv : v ≠ 14#8) {u : State} (live : u.aborted = false) : exec i s ≠ raisedIn v ec u := fun raises =>
  kind_ne_ok_of_raisedIn live hv (raises.symm.trans e) hk

theorem doneIn_eq_next {a : Answer} {s t : State} (h : doneIn a s = .next t) : t = s.respond a :=
  (Host.Outcome.next.inj h).symm

/-! ### `OK` means accepted (R131, R145) -/

theorem cr0Accepts_of_ok {s t : State} {v : Word} (live : s.aborted = false)
    (pass : icptCr s .cr0 .write s.regs.cr0 (cr0Value s.cfg.cpuLevel v) = .pass) (e : exec (.wrcr0 v) s = .next t)
    (hk : t.kind = 0#4) : Supervisor s ∧ Cr0Accepts s v := by
  have raisesNot {u : State} (hu : u.aborted = false) : exec (.wrcr0 v) s ≠ raisedIn 13#8 0#16 u :=
    not_raised_of_ok e hk (by decide) hu
  have hs : Supervisor s := ⟨live, not_not.mp fun level => raisesNot live (runCommand_otherLevel level _)⟩
  have legal : Cr0Legal s v := not_not.mp fun h => raisesNot live (exec_wrcr0_rejected hs pass (.inl h))
  have entry : LongEntryOk s v := not_not.mp fun h => raisesNot live (exec_wrcr0_rejected hs pass (.inr (.inl h)))
  have exit : LongExitOk s v := not_not.mp fun h => raisesNot live (exec_wrcr0_rejected hs pass (.inr (.inr h)))
  refine ⟨hs, { legal with entry, exit, pdptes := fun walks => not_not.mp fun h => ?_ }⟩
  obtain ⟨n, bad⟩ := exists_firstBadPdpte h
  exact raisesNot (u := s.logged _) live (exec_wrcr0_badPdpte hs pass legal entry exit walks bad)

theorem cr4Accepts_of_ok {s t : State} {v : Word} (live : s.aborted = false)
    (pass : icptCr s .cr4 .write s.regs.cr4 v = .pass) (e : exec (.wrcr4 v) s = .next t) (hk : t.kind = 0#4) :
    Supervisor s ∧ Cr4Legal s v ∧ (cr4Walks s v = true → PdptesOk s s.regs.cr3) := by
  have raisesNot {u : State} (hu : u.aborted = false) : exec (.wrcr4 v) s ≠ raisedIn 13#8 0#16 u :=
    not_raised_of_ok e hk (by decide) hu
  have hs : Supervisor s := ⟨live, not_not.mp fun level => raisesNot live (runCommand_otherLevel level _)⟩
  have legal : Cr4Legal s v := not_not.mp fun h => raisesNot live (exec_wrcr4_rejected hs pass h)
  refine ⟨hs, legal, fun walks => not_not.mp fun h => ?_⟩
  obtain ⟨n, bad⟩ := exists_firstBadPdpte h
  exact raisesNot (u := s.logged _) live (exec_wrcr4_badPdpte hs pass legal walks bad)

/-! ### The flushes of an accepted write (R138, R149) -/

theorem tlbFlush_not_mem_pdptesLoaded (s : State) (c : Word) (f : FlushScope) : .tlbFlush f ∉ pdptesLoaded s c := by
  simp [pdptesLoaded, pdpteReads]

/-- The entries of an accepted write that flushes nothing. -/
theorem tlbFlush_not_mem_accepted (b : Bool) (s : State) (c : Word) (m : Mode) (f : FlushScope) :
    .tlbFlush f ∉ (if b then pdptesLoaded s c else []) ++ [] ++ [.modeChange m] := by
  simp [tlbFlush_not_mem_pdptesLoaded]

theorem cr0Accepted_noFlush {s : State} {v : Word} (same : cr0Value s.cfg.cpuLevel v = s.regs.cr0) :
    ∃ new, (cr0Accepted s v).hist = s.hist ++ new ∧ ∀ f, .tlbFlush f ∉ new := by
  have unchanged : (s.regs.cr0 ^^^ cr0Value s.cfg.cpuLevel v) &&& 0x80010001#64 = 0#64 := by
    rw [same, BitVec.xor_self, BitVec.zero_and]
  refine ⟨_, rfl, fun f => ?_⟩
  rw [if_neg (not_not_intro unchanged)]
  exact tlbFlush_not_mem_accepted _ _ _ _ f

theorem cr4Changes_self (s : State) : cr4Changes s s.regs.cr4 = false := by
  simp [cr4Changes]

theorem cr4Changes_of_pge {s : State} {v : Word} (h : v.getLsbD 7 ≠ s.regs.cr4.getLsbD 7) : cr4Changes s v = true := by
  rw [cr4Changes, List.any_eq_true]
  exact ⟨7, by decide, bne_iff_ne.mpr h.symm⟩

/-! ### The properties -/

/-- Settles O28: an `OK` comes from the acceptance alone, and PG without PE is a defect of R132. -/
theorem crProperties : Obligations.CrProperties := by
  refine ⟨fun s v t live pass e hk => ?_, fun s v t live pass e hk => ?_, fun s v hs pass guest pg pe => ?_⟩
  · obtain ⟨hs, accepts⟩ := cr0Accepts_of_ok live pass e hk
    cases doneIn_eq_next ((wrCr0Accepts s v hs pass accepts).symm.trans e)
    refine ⟨rfl, fun guest ⟨pg, pe⟩ => ?_, fun level ⟨nw, cd⟩ => ?_, cr0Accepted_noFlush⟩
    · exact absurd (accepts.pg guest pg) (Bool.eq_false_iff.mp pe)
    · exact absurd (accepts.nw level nw) (Bool.eq_false_iff.mp cd)
  · obtain ⟨hs, legal, pdptes⟩ := cr4Accepts_of_ok live pass e hk
    cases doneIn_eq_next ((wrCr4Accepts s v hs pass legal pdptes).symm.trans e)
    refine ⟨rfl, legal.pae, fun same => ⟨_, rfl, fun f => ?_⟩, fun pge => ⟨_, rfl, ?_⟩⟩
    · rw [same, cr4Changes_self, if_neg Bool.false_ne_true]
      exact tlbFlush_not_mem_accepted _ _ _ _ f
    · simp [cr4Changes_of_pge pge]
  · have illegal : ¬Cr0Legal s v := fun legal => absurd (legal.pg guest pg) (Bool.eq_false_iff.mp pe)
    have raises := exec_wrcr0_rejected hs pass (.inl illegal)
    refine ⟨raises, fun t e hk => ?_⟩
    have frame : SystemFrame s t :=
      systemRegistersAreGuarded (.raise 13#8 0#16 0#64) s t (raises.symm.trans e) hk (.inr rfl)
    exact (congrArg ControlRegs.cr0 frame.regs :)

end Sys2Proof.Machine
end

section
/-! SUPPORT. EFER.LMA (R134, R135, R163): every write but that of CR0 keeps it, and a CR0 write that changes it was accepted
and changed CR0.PG with it. -/

namespace Sys2Proof.Machine

variable {i : Instr}

/-! ### Commands other than WRCR0 -/

def lmaKept (s s' : State) : Prop := s'.regs.lma = s.regs.lma

/-- Every exit but a reset keeps LMA. -/
def lmaExit (s s' : State) (x : Stop) : Prop := x ≠ .done .reset → lmaKept s s'

theorem putDr_efer (n : DrNum) (v : Word) (r : ControlRegs) : (putDr n v r).efer = r.efer := by
  cases n <;> rfl

/-- `WREFER` takes LMA from the old value (R163); only the transition of paging sets or clears it. -/
theorem RegWrite.lma {s : State} {r : ControlRegs} (h : RegWrite i s r) (hi : ∀ v, i ≠ .wrcr0 v) :
    r.lma = s.regs.lma := by
  cases h with
  | cr0 v e => exact absurd e (hi v)
  | efer v => exact eferWrite_lma s.cfg s.regs.efer v
  | address n v => exact congrArg (BitVec.getLsbD · 10) (putDr_efer n v s.regs)
  | cr2 | debug | cr3 | cr4 | xcr0 | xss | status | control => rfl

theorem lma_ruleSteps (hi : ∀ v, i ≠ .wrcr0 v) : RuleSteps i lmaKept lmaExit where
  refl _ := rfl
  trans h1 h2 := Eq.trans h2 h1
  pre h1 h2 hx := (h2 hx).trans h1
  log _ _ _ := rfl
  flush _ _ _ := rfl
  port _ _ := rfl
  store _ _ _ _ := rfl
  regs _ _ h := h.lma hi
  ctx _ _ := rfl
  sched _ _ _ := rfl
  exc _ _ := rfl
  tpr _ _ _ := rfl
  vtpr _ _ _ := rfl
  raised _ _ _ _ := rfl
  caught _ _ _ _ h := h nofun
  done _ _ _ _ _ := rfl
  abort _ _ _ := rfl
  shutDown _ _ := rfl
  reset _ _ hx := absurd rfl hx
  refuse _ _ _ := rfl
  depth _ _ := rfl

theorem lma_of_exec (hi : ∀ v, i ≠ .wrcr0 v) {s t : State} (e : exec i s = .next t) (hk : t.kind ≠ 6#4) :
    t.regs.lma = s.regs.lma := by
  cases live : s.aborted with
  | true =>
    rw [exec_aborted i live] at e
    cases e
    rfl
  | false =>
    obtain ⟨a, s', rfl, ⟨-, kept⟩ | kept⟩ := (lma_ruleSteps hi).exec_ends live e
    · exact kept
    · refine kept ?_
      rintro ⟨⟩
      exact hk (State.kind_respond s' .reset)

/-- Whatever an exception does before its answer, it keeps LMA (R262). -/
theorem lma_of_raisedIn {v : Vector8} {ec : Half} {s t : State} (e : raisedIn v ec s = .next t) (hk : t.kind ≠ 6#4) :
    t.regs.lma = s.regs.lma :=
  lma_of_exec (i := .raise v ec 0#64) nofun e hk

/-! ### WRCR0 -/

theorem cr0Value_pg (l : CpuLevel) (v : Word) : (cr0Value l v).getLsbD 31 = v.getLsbD 31 := by
  rw [← norm0_eq_cr0Value, norm0_pg]

/-- A transition that changes LMA takes it from the old PG to the new one, and sets it only with LME (R134, R135). -/
theorem cr0Efer_changes_lma {s : State} {v : Word} (h : (cr0Efer s v).getLsbD 10 ≠ s.regs.lma) :
    s.regs.pg = s.regs.lma ∧ v.getLsbD 31 = (cr0Efer s v).getLsbD 10
      ∧ ((cr0Efer s v).getLsbD 10 = true → s.regs.lme = true) := by
  have isSet : (s.regs.efer ||| eferLma).getLsbD 10 = true := by simp [eferLma]
  have cleared : (clearBits s.regs.efer eferLma).getLsbD 10 = false := by simp [clearBits, eferLma]
  cases he : cr0Enters s v && s.regs.lme with
  | true =>
    obtain ⟨enters, lme⟩ := Bool.and_eq_true_iff.mp he
    rw [cr0Efer_of_enters enters lme, isSet] at h ⊢
    simp only [cr0Enters, Bool.and_eq_true, Bool.not_eq_true'] at enters
    exact ⟨enters.1.trans (Bool.eq_false_iff.mpr h.symm).symm, enters.2, fun _ => lme⟩
  | false =>
    cases hl : cr0Leaves s v with
    | true =>
      rw [cr0Efer_of_leaves hl, cleared] at h ⊢
      simp only [cr0Leaves, Bool.and_eq_true, Bool.not_eq_true'] at hl
      exact ⟨hl.1.trans (Bool.eq_true_of_not_eq_false h.symm).symm, hl.2, nofun⟩
    | false =>
      rw [cr0Efer_of_stays he hl] at h
      exact absurd rfl h

/-- A CR0 write that passed the layer and is not accepted raises #GP(0), with no register written (R131 to R136). -/
theorem exec_wrcr0_notAccepted {s : State} {v : Word} (hs : Supervisor s)
    (pass : icptCr s .cr0 .write s.regs.cr0 (cr0Value s.cfg.cpuLevel v) = .pass) (h : ¬Cr0Accepts s v) :
    ∃ reads, exec (.wrcr0 v) s = raisedIn 13#8 0#16 (s.logged reads) := by
  by_cases passes : Cr0Legal s v ∧ LongEntryOk s v ∧ LongExitOk s v
  · obtain ⟨legal, entry, exit⟩ := passes
    have badTable : ¬(cr0Walks s v = true → PdptesOk s s.regs.cr3) := fun pdptes => h { legal with entry, exit, pdptes }
    obtain ⟨walks, notOk⟩ := Classical.not_imp.mp badTable
    obtain ⟨n, bad⟩ := exists_firstBadPdpte notOk
    exact ⟨_, exec_wrcr0_badPdpte hs pass legal entry exit walks bad⟩
  · have refused : ¬Cr0Legal s v ∨ ¬LongEntryOk s v ∨ ¬LongExitOk s v := by
      rwa [not_and_or, not_and_or] at passes
    exact ⟨[], by rw [State.logged_nil]; exact exec_wrcr0_rejected hs pass refused⟩

/-- Everything WRCR0 can do to LMA: nothing, short of a reset, unless it is accepted (R131). -/
theorem exec_wrcr0_lma {s t : State} {v : Word} (e : exec (.wrcr0 v) s = .next t) (hk : t.kind ≠ 6#4) :
    t.regs.lma = s.regs.lma ∨ t = (cr0Accepted s v).respond (.ok 0#64) := by
  cases live : s.aborted with
  | true =>
    rw [exec_aborted _ live] at e
    cases e
    exact .inl rfl
  | false =>
    by_cases level : s.ctx.cpl = 0#2
    case neg => exact .inl (lma_of_raisedIn ((runCommand_otherLevel level _).symm.trans e) hk)
    have hs : Supervisor s := ⟨live, level⟩
    obtain ⟨exits, handles⟩ := (layerDecidesBeforeTheValue s v hs).1
    cases answer : icptCr s .cr0 .write s.regs.cr0 (cr0Value s.cfg.cpuLevel v) with
    | exit q =>
      cases doneIn_eq_next ((exits q answer).symm.trans e)
      exact .inl rfl
    | handled x b =>
      cases doneIn_eq_next ((handles x b answer).symm.trans e)
      exact .inl rfl
    | pass =>
      by_cases accepts : Cr0Accepts s v
      · exact .inr (doneIn_eq_next ((wrCr0Accepts s v hs answer accepts).symm.trans e))
      · obtain ⟨reads, raises⟩ := exec_wrcr0_notAccepted hs answer accepts
        exact .inl (lma_of_raisedIn (s := s.logged reads) (raises.symm.trans e) hk)

/-- Settles O14: no rule but that of WRCR0 writes LMA, and an accepted CR0 write takes it from the old PG to the new one. -/
theorem lmaChangesOnlyWithPaging : Obligations.LmaChangesOnlyWithPaging := by
  intro i s t e changed
  by_cases hk : t.kind = 6#4
  · exact .inr hk
  by_cases hi : ∃ v, i = .wrcr0 v
  · obtain ⟨v, rfl⟩ := hi
    obtain kept | rfl := exec_wrcr0_lma e hk
    · exact absurd kept changed
    · obtain ⟨before, after, lme⟩ := cr0Efer_changes_lma changed
      exact .inl ⟨⟨v, rfl⟩, State.kind_respond _ _, before, (cr0Value_pg _ v).trans after, lme⟩
  · exact absurd (lma_of_exec (not_exists.mp hi) e hk) changed

end Sys2Proof.Machine
end

section
/-! SUPPORT. The debug registers from a given state (R173 to R179): how an access ends at each of its stages, and what the
value tests of a write leave. -/

namespace Sys2Proof.Machine

/-! ### The stages that reads and writes share (R173, R174, R178, R179) -/

theorem run_drAccess_pass {s : State} {n : DrNum} {dir : Dir} (h : DrPasses s n dir) : drAccess n dir s = .ok () s := by
  unfold drAccess askPlain
  rw [run_bind_ok (run_generalDetect h.gd), run_bind_ok (run_requireCpl0 h.cpl), run_bind_ok (run_get s), h.pass]
  rfl

theorem run_drAccess_otherLevel {s : State} (gd : s.regs.gd = false) (level : s.ctx.cpl ≠ 0#2) (n : DrNum) (dir : Dir) :
    drAccess n dir s = .error (.raise 13#8 0#16) s :=
  (run_bind_ok (run_generalDetect gd)).trans (run_bind_error (run_requireCpl0_raise level))

/-- The state in which general detect raises: BD has joined the pending debug traps (R179). -/
def State.detected (s : State) : State := s.setSched { s.sched with debugTrap := s.sched.debugTrap ||| 0x2000#16 }

theorem run_drAccess_detected {s : State} (gd : s.regs.gd = true) (n : DrNum) (dir : Dir) :
    drAccess n dir s = .error (.raise 1#8 0#16) s.detected := by
  have detects : generalDetect s = .error (.raise 1#8 0#16) s.detected := by simp [generalDetect, gd, State.detected]
  exact run_bind_error detects

theorem run_requireAlias_raise {s : State} (h : s.regs.de = true) : requireAlias s = .error (.raise 6#8 0#16) s := by
  simp [requireAlias, h]

/-- A number that stands for a debug register is resolved to one (R175). -/
theorem drQuery_of_drAccessRow {de : Bool} {i : Instr} (h : drAccessRow de i = true) :
    ∃ n dir, drQuery de i = some (n, dir) := by
  cases i with
  | wrdr0 | wrdr1 | wrdr2 | wrdr3 | wrdr6 | wrdr7 => exact ⟨_, _, rfl⟩
  | rddr0 | rddr1 | rddr2 | rddr3 | rddr6 | rddr7 => exact ⟨_, _, rfl⟩
  | wrdr4 | wrdr5 | rddr4 | rddr5 =>
    cases de with
    | true => cases h
    | false => exact ⟨_, _, rfl⟩
  | _ => cases h

/-- Past index resolution every access runs the shared stages first. -/
theorem run_body_of_drAccessRow {i : Instr} {s : State} (h : drAccessRow s.regs.de i = true) :
    ∃ n dir f, body i s = (drAccess n dir >>= f) s := by
  obtain ⟨n, dir, row⟩ := drQuery_of_drAccessRow h
  exact ⟨n, dir, run_body_of_drQuery row⟩

/-- With CR4.DE set the numbers 4 and 5 select no register (R173, R175). -/
theorem run_body_of_invalidAlias {i : Instr} {s : State} (h : drAccessRow s.regs.de i = false)
    (row : drAccessRow false i = true) : body i s = .error (.raise 6#8 0#16) s := by
  cases hde : s.regs.de with
  | false =>
    rw [hde] at h
    exact absurd (h.symm.trans row) Bool.false_ne_true
  | true =>
    rw [hde] at h
    cases i with
    | wrdr4 | wrdr5 | rddr4 | rddr5 => exact run_bind_error (run_requireAlias_raise hde)
    | wrdr0 | wrdr1 | wrdr2 | wrdr3 | wrdr6 | wrdr7 => cases h
    | rddr0 | rddr1 | rddr2 | rddr3 | rddr6 | rddr7 => cases h
    | _ => cases row

/-! ### Writes of DR0 to DR3 (R174) -/

theorem run_wrdrAddr {s : State} {n : DrNum} (h : DrPasses s n .write) (v : Word) :
    wrdrAddr n v s = (do
      raiseIf (s.mode == .long64 && !canonical v) 13#8 0#16
      modifyRegs (putDr n v)
      pure (.ok 0#64) : M Answer) s :=
  (run_bind_ok (run_drAccess_pass h)).trans (run_bind_ok (run_get s))

theorem run_wrdrAddr_ok {s : State} {n : DrNum} {v : Word}
    (canon : s.mode = .long64 → v = (v.setWidth 48).signExtend 64) (h : DrPasses s n .write) :
    wrdrAddr n v s = .ok (.ok 0#64) (s.setRegs (putDr n v s.regs)) := by
  have passed : (s.mode == .long64 && !canonical v) = false := by
    rw [Bool.and_eq_false_imp, beq_iff_eq, Bool.not_eq_false', canonical, beq_iff_eq]
    exact canon
  rw [run_wrdrAddr h, passed]
  rfl

theorem run_wrdrAddr_notCanonical {s : State} {n : DrNum} {v : Word} (mode : s.mode = .long64)
    (wrong : v ≠ (v.setWidth 48).signExtend 64) (h : DrPasses s n .write) :
    wrdrAddr n v s = .error (.raise 13#8 0#16) s := by
  have failed : canonical v = false := beq_eq_false_iff_ne.mpr wrong
  rw [run_wrdrAddr h, mode, failed]
  rfl

/-! ### Writes of DR6 and DR7 (R174, R176, R177) -/

theorem dr6Write_eq (c : Config) (old v : Word) :
    dr6Write c.cpuLevel old v = (old &&& 0xFFFF0FF0#64) ||| (v &&& dr6Writable c) := by
  unfold dr6Write dr6Writable
  cases c.cpuLevel <;> rfl

theorem dr7Write_eq (c : Config) (v : Word) : dr7Write c.cpuLevel v = (v &&& dr7Writable c) ||| 0x400#64 := by
  unfold dr7Write dr7Writable
  cases c.cpuLevel <;> rfl

/-- The state after an accepted write of DR6 (R176). -/
def State.dr6Written (s : State) (v : Word) : State :=
  s.setRegs { s.regs with dr6 := (s.regs.dr6 &&& 0xFFFF0FF0#64) ||| (v &&& dr6Writable s.cfg) }

/-- The state after an accepted write of DR7 (R177). -/
def State.dr7Written (s : State) (v : Word) : State :=
  s.setRegs { s.regs with dr7 := (v &&& dr7Writable s.cfg) ||| 0x400#64 }

/-- The test of the upper half (R174). -/
theorem upperHalf_eq_zero {v : Word} (small : v.toNat < 2 ^ 32) : (v.extractLsb' 32 32 != 0#32) = false :=
  bne_eq_false_iff_eq.mpr ((extractLsb'_upper_eq_zero_iff (n := 32) (by decide)).mpr small)

theorem upperHalf_ne_zero {v : Word} (large : 2 ^ 32 ≤ v.toNat) : (v.extractLsb' 32 32 != 0#32) = true :=
  bne_iff_ne.mpr (mt (extractLsb'_upper_eq_zero_iff (n := 32) (by decide)).mp (Nat.not_lt.mpr large))

/-- The shape of a write of DR6 or DR7: the shared stages, the test of the upper half, and the write `f`. -/
def wrdrLow (n : DrNum) (v : Word) (f : State → State) : M Answer := do
  drAccess n .write
  raiseIf (v.extractLsb' 32 32 != 0#32) 13#8 0#16
  modify f
  pure (.ok 0#64)

theorem wrdrStatus_eq (v : Word) : wrdrStatus v = wrdrLow .dr6 v fun s => s.dr6Written v := by
  simp only [State.dr6Written, ← dr6Write_eq]
  rfl

theorem wrdrControl_eq (v : Word) : wrdrControl v = wrdrLow .dr7 v fun s => s.dr7Written v := by
  simp only [State.dr7Written, ← dr7Write_eq]
  rfl

theorem run_wrdrLow_ok {s : State} {n : DrNum} {v : Word} (small : v.toNat < 2 ^ 32) (h : DrPasses s n .write)
    (f : State → State) : wrdrLow n v f s = .ok (.ok 0#64) (f s) := by
  unfold wrdrLow
  rw [run_bind_ok (run_drAccess_pass h), upperHalf_eq_zero small]
  rfl

theorem run_wrdrLow_large {s : State} {n : DrNum} {v : Word} (large : 2 ^ 32 ≤ v.toNat) (h : DrPasses s n .write)
    (f : State → State) : wrdrLow n v f s = .error (.raise 13#8 0#16) s := by
  unfold wrdrLow
  rw [run_bind_ok (run_drAccess_pass h), upperHalf_ne_zero large]
  rfl

/-- DR4 and DR5 with CR4.DE clear are DR6 and DR7 (R175). -/
theorem run_alias {s : State} (de : s.regs.de = false) (m : M Answer) : (requireAlias >>= fun _ => m) s = m s :=
  run_bind_ok (run_requireAlias de)

/-- Settles O30: past the shared stages each write tests its value and stores it, under either of its numbers. -/
theorem wrDr : Obligations.WrDr := by
  refine ⟨fun s v canon => ?_, fun s v small => ?_⟩
  · have stores {n : DrNum} (h : DrPasses s n .write) :
        runCommand (wrdrAddr n v) s = doneIn (.ok 0#64) (s.setRegs (putDr n v s.regs)) :=
      runCommand_eq_doneIn h.live (run_wrdrAddr_ok canon h)
    exact ⟨stores (n := .dr0), stores (n := .dr1), stores (n := .dr2), stores (n := .dr3)⟩
  · have six (h : DrPasses s .dr6 .write) : wrdrStatus v s = .ok (.ok 0#64) (s.dr6Written v) :=
      wrdrStatus_eq v ▸ run_wrdrLow_ok small h _
    have seven (h : DrPasses s .dr7 .write) : wrdrControl v s = .ok (.ok 0#64) (s.dr7Written v) :=
      wrdrControl_eq v ▸ run_wrdrLow_ok small h _
    exact ⟨fun h => runCommand_eq_doneIn h.live (six h), fun h => runCommand_eq_doneIn h.live (seven h),
      fun h de => runCommand_eq_doneIn h.live ((run_alias de _).trans (six h)),
      fun h de => runCommand_eq_doneIn h.live ((run_alias de _).trans (seven h))⟩

/-! ### Reads (R175, R178) -/

theorem run_rddr {s : State} {n : DrNum} (h : DrPasses s n .read) : rddr n s = .ok (.ok (drValue n s.regs)) s :=
  (run_bind_ok (run_drAccess_pass h)).trans (run_bind_ok (run_get s))

theorem runCommand_rddr {s : State} {n : DrNum} (h : DrPasses s n .read) :
    runCommand (rddr n) s = doneIn (.ok (drValue n s.regs)) s :=
  runCommand_eq_doneIn h.live (run_rddr h)

theorem runCommand_rddrAlias {s : State} {n : DrNum} (h : DrPasses s n .read) (de : s.regs.de = false) :
    runCommand (rddrAlias n) s = doneIn (.ok (drValue n s.regs)) s :=
  runCommand_eq_doneIn h.live ((run_alias de _).trans (run_rddr h))

/-- Settles O31: past the shared stages a read answers the register, under either of its numbers. -/
theorem rdDr : Obligations.RdDr := fun _ =>
  ⟨runCommand_rddr (n := .dr0), runCommand_rddr (n := .dr1), runCommand_rddr (n := .dr2), runCommand_rddr (n := .dr3),
    runCommand_rddr (n := .dr6), runCommand_rddr (n := .dr7), runCommand_rddrAlias (n := .dr6),
    runCommand_rddrAlias (n := .dr7)⟩

/-! ### General detect (R179, R270) -/

theorem rolledBack_regs (v : Vector8) (s : State) : (rolledBack v s).regs = s.regs := by
  unfold rolledBack
  split <;> rfl

theorem rolledBack_sched (v : Vector8) (s : State) : (rolledBack v s).sched = s.sched := by
  unfold rolledBack
  split <;> rfl

/-- The state in which a #DB is delivered has the debug registers of R270. -/
theorem excStaged_debug_regs (s : State) : (excStaged 1#8 s).regs = commitDebug s.sched.debugTrap s.regs := by
  rw [← rolledBack_regs 1#8 s, ← rolledBack_sched 1#8 s]
  rfl

/-- A delivery that completes writes no control or debug register (R292). -/
theorem DeliversTo.regs {s t : State} {v : Vector8} {type : BitVec 3} {push : Bool} {ec : Half}
    (h : DeliversTo s v type push ec t) : t.regs = s.regs := by
  cases h with
  | real | same | inner | long => rfl

theorem ExceptionTo.debug_regs {s t : State} {ec : Half} (h : ExceptionTo s 1#8 ec t) :
    t.regs = commitDebug s.sched.debugTrap s.regs := by
  obtain ⟨u, delivers, rfl⟩ := h.delivers
  exact delivers.regs.trans (excStaged_debug_regs s)

/-- The commit moves BD into DR6 and clears DR7.GD (R270). -/
theorem commitDebug_detected (s : State) :
    (commitDebug s.detected.sched.debugTrap s.regs).dr6.getLsbD 13 = true
      ∧ (commitDebug s.detected.sched.debugTrap s.regs).dr7.getLsbD 13 = false := by
  constructor <;> simp [commitDebug, clearBits, State.detected]

/-- Settles O32: general detect is the first of the stages that reads and writes share, so it comes before the privilege
check, and the delivery of its #DB keeps what `CommitDebug` wrote. -/
theorem drGeneralDetect : Obligations.GeneralDetect := by
  intro i s live row gd
  obtain ⟨n, dir, f, run⟩ := run_body_of_drAccessRow row
  have raises : exec i s = raisedIn 1#8 0#16 s.detected := by
    rw [exec_eq_runCommand]
    exact runCommand_eq_raisedIn live live (by decide) (run.trans (run_bind_error (run_drAccess_detected gd n dir)))
  refine ⟨raises, fun t delivered => ?_⟩
  rw [delivered.debug_regs]
  exact ⟨raises.trans (raisedIn_of_exceptionTo live (by decide) delivered), commitDebug_detected s⟩

/-! ### Rejections (R173 to R175) -/

/-- Settles O33: the test of the number, the privilege check and the value tests each raise in the state the command began in. -/
theorem drRejects : Obligations.DrRejects := by
  refine ⟨fun i s invalid row => ?_, fun i s row gd level => ?_, fun s v mode wrong => ?_, fun s v large => ?_⟩
  · rw [exec_eq_runCommand]
    exact runCommand_eq_raisedIn_same (by decide) (run_body_of_invalidAlias invalid row)
  · obtain ⟨n, dir, f, run⟩ := run_body_of_drAccessRow row
    rw [exec_eq_runCommand]
    exact runCommand_eq_raisedIn_same (by decide) (run.trans (run_bind_error (run_drAccess_otherLevel gd level n dir)))
  · have raises {n : DrNum} (h : DrPasses s n .write) : runCommand (wrdrAddr n v) s = raisedIn 13#8 0#16 s :=
      runCommand_eq_raisedIn_same (by decide) (run_wrdrAddr_notCanonical mode wrong h)
    exact ⟨raises (n := .dr0), raises (n := .dr1), raises (n := .dr2), raises (n := .dr3)⟩
  · have six (h : DrPasses s .dr6 .write) : wrdrStatus v s = .error (.raise 13#8 0#16) s :=
      wrdrStatus_eq v ▸ run_wrdrLow_large large h _
    have seven (h : DrPasses s .dr7 .write) : wrdrControl v s = .error (.raise 13#8 0#16) s :=
      wrdrControl_eq v ▸ run_wrdrLow_large large h _
    have raises {m : M Answer} : m s = .error (.raise 13#8 0#16) s → runCommand m s = raisedIn 13#8 0#16 s :=
      runCommand_eq_raisedIn_same (by decide)
    exact ⟨fun h => raises (six h), fun h => raises (seven h), fun h de => raises ((run_alias de _).trans (six h)),
      fun h de => raises ((run_alias de _).trans (seven h))⟩

end Sys2Proof.Machine
end

section
/-! SUPPORT. EFER, XCR0 and IA32_XSS from a given state (R160 to R171): the rules of the writes past their query, one lemma
for each way they end, and the reads. -/

namespace Sys2Proof.Machine

/-! ### WREFER past the query (R160 to R163) -/

/-- What WREFER does once the layer passed it. -/
def eferStages (v : Word) (s : State) : M Answer := do
  raiseIf (v &&& ~~~(eferAllow s.cfg) != 0#64) 13#8 0#16
  raiseIf (v.getLsbD 8 != s.regs.lme && s.regs.pg) 13#8 0#16
  modifyRegs fun r => { r with efer := eferWrite s.cfg r.efer v }
  pure (.ok 0#64)

theorem body_wrefer (v : Word) :
    body (.wrefer v) = guardedWrite (fun s => icptReg s .efer .write s.regs.efer v) (eferStages v) := rfl

/-- A value inside the allow-mask is stored whole but for LMA, which stays (R163). -/
theorem eferWrite_of_allowed {c : Config} {v : Word} (h : v &&& ~~~(eferAllow c) = 0#64) (old : Word) :
    eferWrite c old v = (v &&& ~~~0x400#64) ||| (old &&& 0x400#64) := by
  rw [eferWrite, and_eq_self_of_and_not h]
  rfl

/-- The test of LME passes where paging is off or LME stays (R162). -/
theorem lmeTest_eq_false_iff (s : State) (v : Word) :
    (v.getLsbD 8 != s.regs.lme && s.regs.pg) = false ↔ (s.regs.pg = true → v.getLsbD 8 = s.regs.lme) := by
  rw [Bool.and_comm, Bool.and_eq_false_imp, bne_eq_false_iff_eq]

theorem run_eferStages_ok {s : State} {v : Word} (h : EferAccepts s v) : eferStages v s s = .ok (.ok 0#64)
    (s.setRegs { s.regs with efer := (v &&& ~~~0x400#64) ||| (s.regs.efer &&& 0x400#64) }) := by
  unfold eferStages
  rw [bne_eq_false_iff_eq.mpr h.allowed, (lmeTest_eq_false_iff s v).mpr h.lme, ← eferWrite_of_allowed h.allowed]
  rfl

theorem run_eferStages_raise {s : State} {v : Word} (h : ¬EferAccepts s v) :
    eferStages v s s = .error (.raise 13#8 0#16) s := by
  unfold eferStages
  by_cases allowed : v &&& ~~~(eferAllow s.cfg) = 0#64
  · have changesLme : (v.getLsbD 8 != s.regs.lme && s.regs.pg) = true := by
      rw [← Bool.not_eq_false, lmeTest_eq_false_iff]
      exact fun lme => h ⟨allowed, lme⟩
    rw [bne_eq_false_iff_eq.mpr allowed, changesLme]
    rfl
  · rw [bne_iff_ne.mpr allowed]
    rfl

/-- Settles O34: past the query the rule makes its two tests and stores the value, LMA from the old one. -/
theorem wrEfer : Obligations.WrEfer := by
  refine ⟨fun s v level => runCommand_otherLevel level _, fun s v hs pass => ⟨fun accepts => ?_, fun rejects => ?_⟩⟩
  · exact exec_guardedWrite_done hs (congrFun (body_wrefer v) s) pass (run_eferStages_ok accepts)
  · exact exec_guardedWrite_raised hs (congrFun (body_wrefer v) s) pass hs.live (by decide) (run_eferStages_raise rejects)

/-! ### WRXCR (R165 to R167) -/

/-- What WRXCR does once the layer passed it. -/
def xcrStages (k : BitVec 8) (v : Word) (s : State) : M Answer := do
  raiseIf (k != 0#8) 13#8 0#16
  raiseIf (!legalXcr0 s.cfg v) 13#8 0#16
  modifyRegs fun r => { r with xcr0 := v }
  emitMode
  pure (.ok 0#64)

theorem run_requireOsxsave_raise {s : State} (h : s.regs.osxsave = false) :
    requireOsxsave s = .error (.raise 6#8 0#16) s := by
  simp [requireOsxsave, h]

theorem run_body_wrxcr {s : State} (h : s.regs.osxsave = true) (k : BitVec 8) (v : Word) : body (.wrxcr k v) s
    = guardedWrite (fun s => icptReg s .xcr0 .write s.regs.xcr0 v) (xcrStages k v) s :=
  run_bind_ok (run_requireOsxsave h)

theorem legalXcr0_iff (c : Config) (v : Word) : legalXcr0 c v = true ↔ Xcr0Legal c v := by
  have only : ∀ a b : Bool, (!(a && !b)) = true ↔ (a = true → b = true) := by decide
  have together : ∀ a b c : Bool, (!((a || b || c) && !(a && b && c))) = true ↔ a = b ∧ b = c := by decide
  simp only [legalXcr0, Bool.and_eq_true, beq_iff_eq, together, only]
  exact ⟨fun ⟨⟨⟨⟨⟨h1, h2⟩, h3⟩, h4⟩, h5⟩, h6⟩ => ⟨h1, h2, h3, h4, h5, h6⟩,
    fun h => ⟨⟨⟨⟨⟨h.allowed, h.x87⟩, h.avx⟩, h.mpx⟩, h.avx512⟩, h.needsAvx⟩⟩

theorem run_xcrStages_ok {s : State} {v : Word} (legal : Xcr0Legal s.cfg v) : xcrStages 0#8 v s s
    = .ok (.ok 0#64) ((s.setRegs { s.regs with xcr0 := v }).logged [.modeChange s.mode]) := by
  unfold xcrStages
  rw [(legalXcr0_iff s.cfg v).mpr legal]
  rfl

theorem run_xcrStages_raise {s : State} {k : BitVec 8} {v : Word} (h : k ≠ 0#8 ∨ ¬Xcr0Legal s.cfg v) :
    xcrStages k v s s = .error (.raise 13#8 0#16) s := by
  unfold xcrStages
  by_cases index : k = 0#8
  · have illegal : legalXcr0 s.cfg v = false := by
      rw [← Bool.not_eq_true, legalXcr0_iff]
      exact h.resolve_left (not_not_intro index)
    rw [index, illegal]
    rfl
  · rw [bne_iff_ne.mpr index]
    rfl

/-! ### WRXSS (R169, R170) -/

/-- What WRXSS does once the layer passed it. -/
def xssStages (v : Word) (s : State) : M Answer := do
  raiseIf (!s.cfg.has .xsaves) 13#8 0#16
  raiseIf (v &&& ~~~(xssAllow s.cfg) != 0#64) 13#8 0#16
  modifyRegs fun r => { r with xss := v }
  pure (.ok 0#64)

theorem body_wrxss (v : Word) :
    body (.wrxss v) = guardedWrite (fun s => icptReg s .xss .write s.regs.xss v) (xssStages v) := rfl

theorem run_xssStages_ok {s : State} {v : Word} (feature : s.cfg.has .xsaves = true)
    (allowed : v &&& ~~~(xssAllow s.cfg) = 0#64) :
    xssStages v s s = .ok (.ok 0#64) (s.setRegs { s.regs with xss := v }) := by
  unfold xssStages
  rw [feature, bne_eq_false_iff_eq.mpr allowed]
  rfl

theorem run_xssStages_raise {s : State} {v : Word}
    (h : s.cfg.has .xsaves = false ∨ v &&& ~~~(xssAllow s.cfg) ≠ 0#64) :
    xssStages v s s = .error (.raise 13#8 0#16) s := by
  unfold xssStages
  cases feature : s.cfg.has .xsaves with
  | false => rfl
  | true =>
    rw [bne_iff_ne.mpr (h.resolve_left fun lacks => nomatch feature.symm.trans lacks)]
    rfl

/-- Settles O35: OSXSAVE, then the privilege check, then past the query the tests of the index and of the value. -/
theorem wrXcrAndXss : Obligations.WrXcrAndXss := by
  refine ⟨fun s k v osxsave => ?_, fun s k v osxsave level => ?_, fun s k v osxsave hs pass => ?_,
    fun s v level => runCommand_otherLevel level _, fun s v hs pass => ?_⟩
  · exact runCommand_eq_raisedIn_same (by decide) (run_bind_error (run_requireOsxsave_raise osxsave))
  · exact runCommand_eq_raisedIn_same (by decide)
      ((run_body_wrxcr osxsave k v).trans (run_bind_error (run_requireCpl0_raise level)))
  · refine ⟨fun index legal => ?_, fun rejects => ?_⟩
    · subst index
      exact exec_guardedWrite_done hs (run_body_wrxcr osxsave _ v) pass (run_xcrStages_ok legal)
    · exact exec_guardedWrite_raised hs (run_body_wrxcr osxsave k v) pass hs.live (by decide) (run_xcrStages_raise rejects)
  · refine ⟨fun feature allowed => ?_, fun rejects => ?_⟩
    · exact exec_guardedWrite_done hs (congrFun (body_wrxss v) s) pass (run_xssStages_ok feature allowed)
    · exact exec_guardedWrite_raised hs (congrFun (body_wrxss v) s) pass hs.live (by decide) (run_xssStages_raise rejects)

/-! ### Reads (R164, R168, R171) -/

/-- A read that comes to its query `a` in the state it began in: each of the layer's answers. -/
theorem exec_of_obeyRead {i : Instr} {s : State} {a : RegAnswer} {cur : Word} (live : s.aborted = false)
    (run : body i s = obeyRead a cur s) :
    (a = .pass → exec i s = doneIn (.ok cur) s) ∧ (∀ x b, a = .handled x b → exec i s = doneIn (.ok x) s)
      ∧ ∀ e, a = .exit e → exec i s = doneIn .vmexit (s.exited e) := by
  rw [exec_eq_runCommand]
  refine ⟨?_, fun x b => ?_, fun e => ?_⟩ <;> rintro rfl
  · exact runCommand_eq_doneIn live run
  · exact runCommand_eq_doneIn live run
  · exact runCommand_eq_doneIn_of_done live (run.trans (run_vmExit e s))

theorem run_rdefer {s : State} (cpl : s.ctx.cpl = 0#2) :
    rdefer s = obeyRead (icptReg s .efer .read s.regs.efer 0#64) s.regs.efer s :=
  (run_bind_ok (run_requireCpl0 cpl)).trans (run_bind_ok (run_get s))

theorem run_rdxss {s : State} (cpl : s.ctx.cpl = 0#2) : rdxss s = (do
    raiseIf (!s.cfg.has .xsaves) 13#8 0#16
    obeyRead (icptReg s .xss .read s.regs.xss 0#64) s.regs.xss : M Answer) s :=
  (run_bind_ok (run_requireCpl0 cpl)).trans (run_bind_ok (run_get s))

theorem run_rdxss_feature {s : State} (cpl : s.ctx.cpl = 0#2) (feature : s.cfg.has .xsaves = true) :
    rdxss s = obeyRead (icptReg s .xss .read s.regs.xss 0#64) s.regs.xss s := by
  rw [run_rdxss cpl, feature]
  exact run_bind_ok (run_raiseIf_false _ _ s)

theorem run_rdxss_noFeature {s : State} (cpl : s.ctx.cpl = 0#2) (feature : s.cfg.has .xsaves = false) :
    rdxss s = .error (.raise 13#8 0#16) s := by
  rw [run_rdxss cpl, feature]
  rfl

theorem run_rdxcr {s : State} (osxsave : s.regs.osxsave = true) (k : BitVec 8) :
    rdxcr k s = if k = 0#8 then .ok (.ok s.regs.xcr0) s else .error (.raise 13#8 0#16) s := by
  unfold rdxcr
  rw [run_bind_ok (run_requireOsxsave osxsave)]
  by_cases index : k = 0#8
  · rw [if_pos index, index]
    rfl
  · rw [if_neg index, bne_iff_ne.mpr index]
    rfl

/-- Settles O36: `RDEFER` and `RDXSS` obey the layer at CPL 0, and `RDXCR` neither asks it nor looks at the level. -/
theorem msrReads : Obligations.MsrReads := by
  refine ⟨fun s level => ⟨runCommand_otherLevel level _, runCommand_otherLevel level _⟩,
    fun s hs => exec_of_obeyRead hs.live (run_rdefer hs.cpl),
    fun s hs feature => exec_of_obeyRead hs.live (run_rdxss_feature hs.cpl feature), fun s hs feature => ?_,
    fun s k osxsave => ?_, fun s k osxsave index => ?_, fun s live osxsave => ?_⟩
  · exact runCommand_eq_raisedIn_same (by decide) (run_rdxss_noFeature hs.cpl feature)
  · exact runCommand_eq_raisedIn_same (by decide) (run_bind_error (run_requireOsxsave_raise osxsave))
  · exact runCommand_eq_raisedIn_same (by decide) ((run_rdxcr osxsave k).trans (if_neg index))
  · exact runCommand_eq_doneIn live ((run_rdxcr osxsave 0#8).trans (if_pos rfl))

end Sys2Proof.Machine
end

section
/-! SUPPORT. The I/O permission check from a given state (R190 to R200): the permission bits and the breakpoint ranges of
the model as conditions on bits and numbers, an access of the memory port that takes its page fault, and the check's ends. -/

namespace Sys2Proof.Machine

/-! ### Masks of low bits -/

/-- The mask of the low `n` bits. -/
def lowMask (n : Nat) : Word := BitVec.ofNat 64 (2 ^ n - 1)

theorem getLsbD_lowMask (n i : Nat) : (lowMask n).getLsbD i = (decide (i < 64) && decide (i < n)) := by
  rw [lowMask, BitVec.getLsbD_ofNat, Nat.testBit_two_pow_sub_one]

theorem toNat_lowMask {n : Nat} (hn : n ≤ 64) : (lowMask n).toNat = 2 ^ n - 1 := by
  have fits : 2 ^ n ≤ 2 ^ 64 := Nat.pow_le_pow_right (by decide) hn
  have pos : 0 < 2 ^ n := Nat.two_pow_pos n
  exact (BitVec.toNat_ofNat _ _).trans (Nat.mod_eq_of_lt (by omega))

theorem clearBits_and_self (x m : Word) : clearBits x m &&& m = 0#64 := by
  rw [clearBits, BitVec.and_assoc, BitVec.and_comm (~~~m), BitVec.and_not_self]
  exact BitVec.and_zero

theorem clearBits_or_and (x m : Word) : clearBits x m ||| (x &&& m) = x := by
  rw [clearBits, ← BitVec.and_or_distrib_left, BitVec.or_comm, BitVec.or_not_self, BitVec.and_allOnes]

/-- Clearing the low `n` bits rounds down to a multiple of `2 ^ n`. -/
theorem toNat_clearBits_lowMask (x : Word) {n : Nat} (hn : n ≤ 64) :
    (clearBits x (lowMask n)).toNat = x.toNat - x.toNat % 2 ^ n := by
  have disjoint : clearBits x (lowMask n) &&& (x &&& lowMask n) = 0#64 := by
    rw [BitVec.and_comm x, ← BitVec.and_assoc, clearBits_and_self, BitVec.zero_and]
  have low : (x &&& lowMask n).toNat = x.toNat % 2 ^ n := by
    rw [BitVec.toNat_and, toNat_lowMask hn, Nat.and_two_pow_sub_one_eq_mod]
  have total : (clearBits x (lowMask n)).toNat + x.toNat % 2 ^ n = x.toNat := by
    rw [← low, ← BitVec.toNat_add_of_and_eq_zero disjoint, BitVec.add_eq_or_of_and_eq_zero _ _ disjoint,
      clearBits_or_and]
  omega

/-- The last address of the block of `2 ^ n` bytes around `x`: the sum does not wrap. -/
theorem toNat_clearBits_add_lowMask (x : Word) {n : Nat} (hn : n ≤ 64) :
    (clearBits x (lowMask n) + lowMask n).toNat = x.toNat - x.toNat % 2 ^ n + (2 ^ n - 1) := by
  rw [BitVec.toNat_add_of_and_eq_zero (clearBits_and_self x _), toNat_clearBits_lowMask x hn, toNat_lowMask hn]

/-! ### The widths (R190) -/

theorem ioWidthOk_iff {width : BitVec 8} : ioWidthOk width = true ↔ width = 1#8 ∨ width = 2#8 ∨ width = 4#8 := by
  simp only [ioWidthOk, Bool.or_eq_true, beq_iff_eq, or_assoc]

theorem ioWidthOk_eq_false {width : BitVec 8} (h : width ≠ 1#8 ∧ width ≠ 2#8 ∧ width ≠ 4#8) :
    ioWidthOk width = false := by
  rw [← Bool.not_eq_true, ioWidthOk_iff, not_or, not_or]
  exact h

theorem toNat_pos_of_ioWidthOk {width : BitVec 8} (h : ioWidthOk width = true) : 0 < width.toNat := by
  rcases ioWidthOk_iff.mp h with rfl | rfl | rfl <;> decide

theorem lowMask_of_ioWidthOk {width : BitVec 8} (h : ioWidthOk width = true) :
    (1#64 <<< width.toNat) - 1#64 = lowMask width.toNat := by
  rcases ioWidthOk_iff.mp h with rfl | rfl | rfl <;> rfl

theorem toNat_le_of_ioWidthOk {width : BitVec 8} (h : ioWidthOk width = true) : width.toNat ≤ 64 := by
  rcases ioWidthOk_iff.mp h with rfl | rfl | rfl <;> decide

/-! ### The permission bits (R191, R196) -/

theorem ioBitsClear_iff {width : BitVec 8} (h : ioWidthOk width = true) (w : Word) (port : Half) :
    ioBitsClear w port width = true ↔ ∀ j, j < width.toNat → w.getLsbD (port.toNat % 8 + j) = false := by
  rw [ioBitsClear, beq_iff_eq, lowMask_of_ioWidthOk h, and_eq_zero_iff]
  simp only [getLsbD_lowMask, BitVec.getLsbD_ushiftRight, Bool.and_eq_true, decide_eq_true_eq]
  have le := toNat_le_of_ioWidthOk h
  exact ⟨fun clear j hj => clear j ⟨by omega, hj⟩, fun clear j hj => clear j hj.2⟩

/-! ### The breakpoints (R200) -/

/-- The base-two logarithm of the size a length code stands for. -/
def bpLogSize (len : BitVec 2) : Nat := if len = 0#2 then 0 else if len = 1#2 then 1 else if len = 2#2 then 3 else 2

theorem bpLogSize_le (len : BitVec 2) : bpLogSize len ≤ 64 := by decide +revert

theorem bpLenMask_eq (len : BitVec 2) : bpLenMask len = lowMask (bpLogSize len) := by decide +revert

theorem two_pow_bpLogSize (len : BitVec 2) : 2 ^ bpLogSize len
    = if len = 0#2 then 1 else if len = 1#2 then 2 else if len = 2#2 then 8 else 4 := by decide +revert

theorem toNat_lastPort (port : Half) {width : BitVec 8} (h : 0 < width.toNat) :
    (port.setWidth 64 + width.setWidth 64 - 1#64 : Word).toNat = port.toNat + width.toNat - 1 := by
  have narrow : port.toNat < 2 ^ 16 := port.isLt
  have short : width.toNat < 2 ^ 8 := width.isLt
  simp only [BitVec.toNat_sub, BitVec.toNat_add, BitVec.toNat_setWidth, BitVec.toNat_ofNat]
  omega

/-- The model compares closed ranges of words, the statements half-open ranges of numbers. -/
theorem ioBpHit_eq_ioHit {width : BitVec 8} (h : ioWidthOk width = true) (r : ControlRegs) (dr : Word) (i : Nat)
    (port : Half) : ioBpHit r.dr7 dr i port width = ioHit r dr i port width := by
  have pos := toNat_pos_of_ioWidthOk h
  unfold ioBpHit ioHit
  generalize r.dr7.extractLsb' (18 + 4 * i) 2 = len
  have size := Nat.two_pow_pos (bpLogSize len)
  have start := toNat_clearBits_lowMask dr (bpLogSize_le len)
  have stop := toNat_clearBits_add_lowMask dr (bpLogSize_le len)
  have port64 : (port.setWidth 64 : Word).toNat = port.toNat := BitVec.toNat_setWidth_of_le (by decide)
  simp only [bpLenMask_eq, ← two_pow_bpLogSize, BitVec.le_def, start, stop, port64, toNat_lastPort port pos]
  congr 2
  · congr 1
    apply propext
    omega
  · apply propext
    omega

/-- Four bits one after the other are their sum at the weights 1, 2, 4 and 8. -/
theorem packed_eq_or (b0 b1 b2 b3 : Bool) :
    0#12 ++ BitVec.ofBool b3 ++ BitVec.ofBool b2 ++ BitVec.ofBool b1 ++ BitVec.ofBool b0
      = (if b0 then 1#16 else 0#16) ||| (if b1 then 2#16 else 0#16) ||| (if b2 then 4#16 else 0#16)
        ||| (if b3 then 8#16 else 0#16) := by
  decide +revert

theorem ioBpMatch_eq_ioHits {width : BitVec 8} (h : ioWidthOk width = true) (r : ControlRegs) (port : Half) :
    ioBpMatch r port width = ioHits r port width := by
  unfold ioBpMatch ioHits
  rw [packed_eq_or]
  simp only [ioBpHit_eq_ioHit h]
  rfl

/-! ### One access of the memory port (R72, R76) -/

/-- Only the answer to this access counts, whatever is listed for the later ones. -/
theorem run_memRead_of_head {s : State} (h : s.port.head?.join = none) (a : Word) (n : Nat) (acc : Acc) :
    memRead a n acc s = .ok (s.mem.readLE a n) (s.accessed [.memR a n acc]) := by
  simp [memRead, portAccess, portAnswer, State.accessed, h]

/-- The state in which a page fault on an access to `a` is raised (R76). -/
def State.faultedAt (s : State) (a : Word) : State := s.setRegs { s.regs with cr2 := a }

theorem run_memRead_fault {s : State} {ec : Half} {rest : List (Option Half)} (h : s.port = some ec :: rest) (a : Word)
    (n : Nat) (acc : Acc) :
    memRead a n acc s = .error (.raise 14#8 ec) ((s.accessed [.memR a n acc]).faultedAt a) := by
  simp [memRead, portAccess, portAnswer, portFault, State.accessed, State.faultedAt, h]

/-- What `RAISE 14` does before the exception is taken: it records the address (R260). -/
theorem exec_raise_pageFault {t : State} (live : t.aborted = false) (ec : Half) (a : Word) :
    exec (.raise 14#8 ec a) t = outcomeOf (exception maxExceptions 14#8 ec (t.faultedAt a)) :=
  (exec_eq_runCommand _ t).trans (runCommand_raise live rfl)

/-- A command that leaves its rule by the page fault of an access comes to what `RAISE 14` gives after that access. -/
theorem exec_eq_raise_pageFault {i : Instr} {s t : State} {ec : Half} {a : Word} (live : s.aborted = false)
    (live' : t.aborted = false) (e : body i s = .error (.raise 14#8 ec) (t.faultedAt a)) :
    exec i s = exec (.raise 14#8 ec a) t := by
  rw [exec_raise_pageFault live', exec_eq_runCommand, runCommand_raise live e]

/-! ### The bitmap (R191 to R196) -/

theorem ioUnconditional_eq_true_iff {s : State} : ioUnconditional s = true ↔ ¬ioChecked s := by
  rw [ioUnconditional, Bool.or_eq_true, Bool.not_eq_true', decide_eq_true_eq, ioChecked, not_and_or, Bool.not_eq_true,
    BitVec.not_lt]
  rfl

theorem ioUnconditional_eq_false {s : State} (h : ioChecked s) : ioUnconditional s = false := by
  rw [← Bool.not_eq_true, ioUnconditional_eq_true_iff]
  exact not_not_intro h

theorem ioTssOk_iff {s : State} : ioTssOk s.ctx.tr = true ↔ ioTss s := by
  simp only [ioTssOk, isTss32, ioTss, Bool.and_eq_true, Bool.or_eq_true, beq_iff_eq, decide_eq_true_eq, and_assoc]

section
variable {s : State} {port : Half} {width : BitVec 8}

theorem run_bitmapGrants_unchecked (h : ¬ioChecked s) : bitmapGrants port width s = .ok true s := by
  simp [bitmapGrants, ioUnconditional_eq_true_iff.mpr h]

theorem run_bitmapGrants_noTss (h : ioChecked s) (tss : ¬ioTss s) : bitmapGrants port width s = .ok false s := by
  have lacks : ioTssOk s.ctx.tr = false := by rwa [← Bool.not_eq_true, ioTssOk_iff]
  simp [bitmapGrants, ioUnconditional_eq_false h, lacks]

theorem run_bitmapGrants_tss (h : ioChecked s) (tss : ioTss s) :
    bitmapGrants port width s = bitmapWord port width s := by
  simp [bitmapGrants, ioUnconditional_eq_false h, ioTssOk_iff.mpr tss]

/-- The I/O-map base is read first; a permission word beyond the limit is not read (R194, R195). -/
theorem run_bitmapWord_beyond (pass : s.port.head?.join = none) (beyond : s.ctx.tr.cache.limit.toNat ≤ ioOff s port) :
    bitmapWord port width s = .ok false (s.accessed [.memR (ioMapAddr s) 2 .sys]) := by
  unfold bitmapWord
  rw [run_bind_ok (run_get s), run_bind_ok (run_memRead_of_head pass _ _ _)]
  exact congrFun (if_pos beyond) _

/-- Inside the limit the second read decides (R194, R196). -/
theorem run_bitmapWord_within (pass : s.port.head?.join = none) (bound : ioOff s port < s.ctx.tr.cache.limit.toNat) :
    bitmapWord port width s
      = (memRead (ioWordAddr s port) 2 .sys >>= fun w => pure (ioBitsClear w port width) : M Bool)
          (s.accessed [.memR (ioMapAddr s) 2 .sys]) := by
  unfold bitmapWord
  rw [run_bind_ok (run_get s), run_bind_ok (run_memRead_of_head pass _ _ _)]
  exact congrFun (if_neg (Nat.not_le.mpr bound)) _

theorem run_bitmapWord_ok (ok : s.portOk) (bound : ioOff s port < s.ctx.tr.cache.limit.toNat) :
    bitmapWord port width s
      = .ok (ioBitsClear (s.mem.readLE (ioWordAddr s port) 2) port width) (s.accessed (ioReads s port)) := by
  rw [run_bitmapWord_within ok.head bound, run_bind_ok (run_memRead_ok (ok.accessed _) _ _ _), State.accessed_accessed]
  rfl

theorem run_bitmapWord_firstFault {ec : Half} {rest : List (Option Half)} (fault : s.port = some ec :: rest) :
    bitmapWord port width s
      = .error (.raise 14#8 ec) ((s.accessed [.memR (ioMapAddr s) 2 .sys]).faultedAt (ioMapAddr s)) :=
  (run_bind_ok (run_get s)).trans (run_bind_error (run_memRead_fault fault _ _ _))

theorem run_bitmapWord_secondFault {ec : Half} {rest : List (Option Half)} (fault : s.port = none :: some ec :: rest)
    (bound : ioOff s port < s.ctx.tr.cache.limit.toNat) :
    bitmapWord port width s
      = .error (.raise 14#8 ec) ((s.accessed (ioReads s port)).faultedAt (ioWordAddr s port)) := by
  have pass : s.port.head?.join = none := by rw [fault]; rfl
  have next : (s.accessed [.memR (ioMapAddr s) 2 .sys]).port = some ec :: rest := congrArg (List.drop 1) fault
  rw [run_bitmapWord_within pass bound, run_bind_error (run_memRead_fault next _ _ _), State.accessed_accessed]
  rfl

/-- Every way to be granted of the statements (R191). -/
theorem run_bitmapGrants_of_ioGranted (hw : ioWidthOk width = true) {reads : List Event}
    (h : IoGranted s width port reads) : bitmapGrants port width s = .ok true (s.accessed reads) := by
  cases h with
  | unchecked h => simpa [State.accessed] using run_bitmapGrants_unchecked h
  | bitmap h tss bound clear ok =>
    rw [run_bitmapGrants_tss h tss, run_bitmapWord_ok ok bound, (ioBitsClear_iff hw _ _).mpr clear]

end

/-! ### The command (R190) -/

/-- What CHKIO does once the permission check granted it: the layer, then the breakpoints (R199, R200). -/
def chkioGranted (width : BitVec 8) (out rep : Bool) (port : Half) : M Answer := do
  askPlain (.io port width out rep)
  modify fun s => s.setSched { s.sched with debugTrap := s.sched.debugTrap ||| ioBpMatch s.regs port width }
  pure (.ok 0#64)

section
variable {s t : State} {port : Half} {width : BitVec 8} {out rep : Bool}

theorem run_chkio_badWidth (h : ioWidthOk width = false) :
    chkio width out rep port s = .error (.done .abort) (s.abortedBy .badCommand) := by
  unfold chkio
  rw [h]
  rfl

/-- A command of a legal width begins with the permission check (R190). -/
theorem run_chkio (hw : ioWidthOk width = true) : chkio width out rep port s
    = (bitmapGrants port width >>= fun granted => denyUnless granted >>= fun _ => chkioGranted width out rep port) s := by
  unfold chkio
  rw [hw]
  exact run_bind_ok (run_abortIf_false _ s)

theorem run_chkio_granted (hw : ioWidthOk width = true) (e : bitmapGrants port width s = .ok true t) :
    chkio width out rep port s = chkioGranted width out rep port t :=
  (run_chkio hw).trans (run_bind_ok e)

theorem run_chkio_denied (hw : ioWidthOk width = true) (e : bitmapGrants port width s = .ok false t) :
    chkio width out rep port s = .error (.done .deny) t :=
  (run_chkio hw).trans (run_bind_ok e)

theorem run_chkio_stops (hw : ioWidthOk width = true) {x : Stop} (e : bitmapGrants port width s = .error x t) :
    chkio width out rep port s = .error x t :=
  (run_chkio hw).trans (run_bind_error e)

theorem exec_chkio_denied (live : s.aborted = false) (hw : ioWidthOk width = true)
    (e : bitmapGrants port width s = .ok false t) : exec (.chkio width out rep port) s = doneIn .deny t :=
  runCommand_eq_doneIn_of_done live (run_chkio_denied hw e)

theorem exec_chkio_fault (live : s.aborted = false) (live' : t.aborted = false) (hw : ioWidthOk width = true) {ec : Half}
    {a : Word} (e : bitmapGrants port width s = .error (.raise 14#8 ec) (t.faultedAt a)) :
    exec (.chkio width out rep port) s = exec (.raise 14#8 ec a) t :=
  exec_eq_raise_pageFault live live' (run_chkio_stops hw e)

theorem run_askPlain_pass {q : PlainQuery} (h : plainAnswer s q = none) : askPlain q s = .ok () s := by
  simp [askPlain, obeyPlain, h]

theorem run_askPlain_exit {q : PlainQuery} {e : ExitInfo} (h : plainAnswer s q = some e) :
    askPlain q s = .error (.done .vmexit) (s.exited e) := by
  simp [askPlain, obeyPlain, h]

theorem run_chkioGranted_pass (hw : ioWidthOk width = true) (h : plainAnswer s (.io port width out rep) = none) :
    chkioGranted width out rep port s = .ok (.ok 0#64)
      (s.setSched { s.sched with debugTrap := s.sched.debugTrap ||| ioHits s.regs port width }) := by
  unfold chkioGranted
  rw [run_bind_ok (run_askPlain_pass h), ← ioBpMatch_eq_ioHits hw]
  rfl

end

/-- Settles O37: the check grants and leaves only its reads; the layer's answer does not look at them. -/
theorem chkioGrants : Obligations.ChkioGrants := by
  intro s width out rep port reads live width_mem granted
  have hw := ioWidthOk_iff.mpr width_mem
  have run := run_chkio_granted (out := out) (rep := rep) hw (run_bitmapGrants_of_ioGranted hw granted)
  have same : plainAnswer (s.accessed reads) (.io port width out rep) = plainAnswer s (.io port width out rep) := rfl
  refine ⟨fun pass => ?_, fun e exits => ?_⟩
  · exact runCommand_eq_doneIn live (run.trans (run_chkioGranted_pass hw (same.trans pass)))
  · exact runCommand_eq_doneIn_of_done live (run.trans (run_bind_error (run_askPlain_exit (same.trans exits))))

/-- Settles O38: one clause for each way the permission check ends otherwise than by granting. -/
theorem chkioDenies : Obligations.ChkioDenies := by
  refine ⟨fun s width out rep port live bad => ?_, fun s width out rep port live width_mem checked => ?_⟩
  · exact runCommand_eq_doneIn_of_done live (run_chkio_badWidth (ioWidthOk_eq_false bad))
  have hw := ioWidthOk_iff.mpr width_mem
  refine ⟨fun noTss => ?_, fun tss ok beyond => ?_, fun tss ok bound ⟨j, hj, set⟩ => ?_, fun ec rest tss fault => ?_,
    fun ec rest tss fault bound => ?_⟩
  · exact exec_chkio_denied live hw (run_bitmapGrants_noTss checked noTss)
  · exact exec_chkio_denied live hw ((run_bitmapGrants_tss checked tss).trans (run_bitmapWord_beyond ok.head beyond))
  · have blocked : ioBitsClear (s.mem.readLE (ioWordAddr s port) 2) port width = false := by
      rw [← Bool.not_eq_true, ioBitsClear_iff hw]
      exact fun clear => Bool.false_ne_true ((clear j hj).symm.trans set)
    refine exec_chkio_denied live hw ((run_bitmapGrants_tss checked tss).trans ?_)
    rw [run_bitmapWord_ok ok bound, blocked]
  · exact exec_chkio_fault (t := s.accessed _) live live hw
      ((run_bitmapGrants_tss checked tss).trans (run_bitmapWord_firstFault fault))
  · exact exec_chkio_fault (t := s.accessed _) live live hw
      ((run_bitmapGrants_tss checked tss).trans (run_bitmapWord_secondFault fault bound))

end Sys2Proof.Machine
end

section
/-! SUPPORT. The feeders of the scheduler from a given state (R245 to R249): what each leaves, and when it ends in
ABORT(bad_command). -/

namespace Sys2Proof.Machine

variable {s : State}

/-! ### SIGNAL and EVMASK (R245, R246) -/

theorem run_signal {e : BitVec 4} (he : e ≠ 3#4) (level : Bool) :
    signal e level s
      = .ok (.ok 0#64) (s.setSched { s.sched with pending := putBit s.sched.pending e level }) := by
  unfold signal
  rw [beq_eq_false_iff_ne.mpr he]
  rfl

theorem run_signal_reserved (level : Bool) :
    signal 3#4 level s = .error (.done .abort) (s.abortedBy .badCommand) := rfl

theorem run_evmask (e : BitVec 4) (mask : Bool) :
    evmask e mask s = .ok (.ok 0#64) (s.setSched { s.sched with mask := putBit s.sched.mask e mask }) := rfl

/-- Settles O39: `putBit` is the one write of either command, and event 3 is the one test. -/
theorem signalAndMask : Obligations.SignalAndMask :=
  ⟨fun _ _ live he => ⟨runCommand_eq_doneIn live (run_signal he true), runCommand_eq_doneIn live (run_signal he false)⟩,
    fun _ level live => runCommand_eq_doneIn_of_done live (run_signal_reserved level),
    fun _ e live => ⟨runCommand_eq_doneIn live (run_evmask e true), runCommand_eq_doneIn live (run_evmask e false)⟩⟩

/-! ### INHIBIT and DBGTRAP (R247, R248) -/

theorem run_inhibit (m : BitVec 2) :
    inhibit m s = .ok (.ok 0#64) (s.setSched { s.sched with inhibit := s.sched.inhibit ||| m }) := rfl

theorem run_dbgtrap {b : Half} (h : b &&& 0x1FF0#16 = 0#16) :
    dbgtrap b s = .ok (.ok 0#64) (s.setSched { s.sched with debugTrap := s.sched.debugTrap ||| b }) := by
  unfold dbgtrap
  rw [h]
  rfl

theorem run_dbgtrap_reserved {b : Half} (h : b &&& 0x1FF0#16 ≠ 0#16) :
    dbgtrap b s = .error (.done .abort) (s.abortedBy .badCommand) := by
  unfold dbgtrap
  rw [bne_iff_ne.mpr h]
  rfl

/-! ### ACTIVITY (R249) -/

theorem run_activity {code : BitVec 3} {a : Activity} (h : activityOf code = some a) :
    activity code s = .ok (.ok 0#64) ((s.setSched { s.sched with activity := a }).setCtx (activityCtx a s.ctx)) := by
  unfold activity
  rw [h]
  rfl

theorem run_activity_reserved {code : BitVec 3} (h : activityOf code = none) :
    activity code s = .error (.done .abort) (s.abortedBy .badCommand) := by
  unfold activity
  rw [h]
  rfl

/-- Only shutdown clears IF (R249). -/
theorem activityCtx_of_ne_shutdown {a : Activity} (h : a ≠ .shutdown) (c : Context) : activityCtx a c = c :=
  if_neg (by simpa using h)

theorem activityOf_of_table :
    ∀ p ∈ [(0#3, Activity.active), (1#3, .hlt), (3#3, .waitForSipi), (4#3, .mwait), (5#3, .mwaitIf)],
      activityOf p.1 = some p.2 ∧ p.2 ≠ .shutdown := by decide

/-- Settles O40: the tests of R248 and R249 decide between the write and ABORT(bad_command), and shutdown alone touches the
context. -/
theorem inhibitTrapActivity : Obligations.InhibitTrapActivity := by
  intro s live
  refine ⟨fun m => runCommand_eq_doneIn live (run_inhibit m), fun b clear => runCommand_eq_doneIn live (run_dbgtrap clear),
    fun b set => runCommand_eq_doneIn_of_done live (run_dbgtrap_reserved set), fun p hp => ?_,
    runCommand_eq_doneIn live (run_activity (code := 2#3) rfl), fun a ha => ?_⟩
  · obtain ⟨code, notShutdown⟩ := activityOf_of_table p hp
    refine runCommand_eq_doneIn live ((run_activity code).trans ?_)
    rw [activityCtx_of_ne_shutdown notShutdown]
    rfl
  · refine runCommand_eq_doneIn_of_done live (run_activity_reserved ?_)
    rcases ha with rfl | rfl <;> rfl

end Sys2Proof.Machine
end

section
/-! SUPPORT. The boundary pass from a given state (R220 to R253): the event tests as conditions, each step of the pass where
it acts and where it does not, and the pass from each of its steps on. -/

namespace Sys2Proof.Machine

variable {α β : Type} {s : State}

/-! ### The event tests (R50, R223, R229, R238) -/

theorem unmasked_iff {e : Nat} : s.unmasked e = true ↔ evOn s e := by simp [State.unmasked, evOn]

theorem unmasked_eq_false {e : Nat} (h : ¬evOn s e) : s.unmasked e = false :=
  Bool.eq_false_iff.mpr (mt unmasked_iff.mp h)

theorem unmaskedIF_iff {e : Nat} : s.unmaskedIF e = true ↔ evOn s e ∧ ifIs1 s := by
  rw [State.unmaskedIF, Bool.and_eq_true, unmasked_iff]
  rfl

theorem unmaskedIF_eq_false {e : Nat} (h : ifIs1 s → ¬evOn s e) : s.unmaskedIF e = false :=
  Bool.eq_false_iff.mpr fun on => by
    obtain ⟨ev, ifOn⟩ := unmaskedIF_iff.mp on
    exact h ifOn ev

theorem gifOn_iff : s.gifOn = true ↔ gifIs1 s := by simp [State.gifOn, gifIs1]

/-- SMI and INIT act where they are unmasked and GIF lets them through (R229, R233, R234). -/
theorem unmasked_and_gifOn_eq_false {e : Nat} (h : evOn s e → ¬gifIs1 s) : (s.unmasked e && s.gifOn) = false := by
  rw [Bool.eq_false_iff, ne_eq, Bool.and_eq_true, unmasked_iff, gifOn_iff]
  exact fun ⟨on, gif⟩ => h on gif

theorem unmasked_and_gifOn {e : Nat} (on : evOn s e) (gif : gifIs1 s) : (s.unmasked e && s.gifOn) = true :=
  Bool.and_eq_true_iff.mpr ⟨unmasked_iff.mpr on, gifOn_iff.mpr gif⟩

theorem wakes_iff : s.wakes = true ↔ Wakes s := by
  simp only [State.wakes, Wakes, Bool.and_eq_true, Bool.or_eq_true, bne_iff_ne, beq_iff_eq, unmasked_iff, or_assoc]
  rfl

theorem not_evOn_clearedEvent (s : State) (e : Nat) : ¬evOn (clearedEvent s e) e := by
  rintro ⟨on, -⟩
  have inRange : e < 16 := BitVec.lt_of_getLsbD on
  simp [clearedEvent, inRange] at on

theorem evOn_of_clearedEvent {e d : Nat} (h : evOn (clearedEvent s e) d) : evOn s d := by
  obtain ⟨on, unmasked⟩ := h
  rw [clearedEvent, State.setSched_sched, BitVec.getLsbD_and, Bool.and_eq_true] at on
  exact ⟨on.1, unmasked⟩

/-! ### Running a part of the pass in another state -/

theorem run_bind_congr {m : M α} {f : α → M β} {s s' : State} (h : m s = m s') : (m >>= f) s = (m >>= f) s' := by
  rw [run_bind, run_bind, h]

/-- A command that comes to running another one in another state ends as that one does. -/
theorem runCommand_congr {m n : M Answer} {s t : State} (live : s.aborted = false) (live' : t.aborted = false)
    (h : m s = n t) : runCommand m s = runCommand n t := by
  rw [runCommand_eq live, runCommand_eq live', onRaise, onRaise, h]

theorem run_clearPending (e : Nat) : clearPending e s = .ok () (clearedEvent s e) := rfl

/-! ### Step 1: the kill request and the halting states (R222, R223, R226) -/

theorem run_stepKill (h : s.inp.killRequest = false) : stepKill s = .ok () s := by
  refine (run_bind_ok (run_get s)).trans ?_
  rw [h]
  rfl

theorem run_stepKill_killed (h : s.inp.killRequest = true) : stepKill s = .error (.done .killed) s := by
  refine (run_bind_ok (run_get s)).trans ?_
  rw [h]
  rfl

theorem run_haltedFirst_active (h : s.sched.activity = .active) : haltedFirst s = .ok () s := by
  refine (run_bind_ok (run_get s)).trans ?_
  rw [h]
  rfl

theorem run_haltedFirst_halted (h : s.sched.activity ≠ .active) : haltedFirst s = haltedStep s := by
  refine (run_bind_ok (run_get s)).trans ?_
  rw [bne_iff_ne.mpr h]
  rfl

theorem run_haltedStep_woken (kill : s.inp.killRequest = false) (h : Wakes s) :
    haltedStep s = .ok () (s.setSched { s.sched with activity := .active, inhibit := 0#2 }) := by
  refine (run_bind_ok (run_stepKill kill)).trans ((run_bind_ok (run_get s)).trans ?_)
  rw [wakes_iff.mpr h]
  rfl

theorem run_haltedStep_halted (kill : s.inp.killRequest = false) (h : ¬Wakes s) :
    haltedStep s = .error (.done .halted) s := by
  refine (run_bind_ok (run_stepKill kill)).trans ((run_bind_ok (run_get s)).trans ?_)
  rw [Bool.eq_false_iff.mpr (mt wakes_iff.mp h)]
  rfl

/-! ### Steps 2 and 3: the task-switch trap and the APIC-virtualization traps (R231, R232) -/

theorem run_stepTaskTrap (h : s.sched.debugTrap.getLsbD 15 = false) : stepTaskTrap s = .ok () s := by
  refine (run_bind_ok (run_get s)).trans ?_
  rw [h]
  rfl

theorem run_stepTaskTrap_raise (h : s.sched.debugTrap.getLsbD 15 = true) :
    stepTaskTrap s = .error (.raise 1#8 0#16) s := by
  refine (run_bind_ok (run_get s)).trans ?_
  rw [h]
  rfl

theorem run_apicTrap_off {e : Nat} (h : ¬evOn s e) : apicTrap e s = .ok () s := by
  refine (run_bind_ok (run_get s)).trans ?_
  rw [unmasked_eq_false h]
  rfl

theorem run_apicTrap_on {e : Nat} (h : evOn s e) : apicTrap e s = obeyPlain (apicTrapAnswer s e) (clearedEvent s e) := by
  refine (run_bind_ok (run_get s)).trans ?_
  rw [unmasked_iff.mpr h]
  rfl

/-- A trap that the VMX host lets pass is gone (R232). -/
theorem run_apicTrap_pass {e : Nat} (h : evOn s e) (pass : apicTrapAnswer s e = none) :
    apicTrap e s = apicTrap e (clearedEvent s e) := by
  rw [run_apicTrap_on h, pass, run_apicTrap_off (not_evOn_clearedEvent s e)]
  rfl

theorem run_apicTrap_exit {e : Nat} (h : evOn s e) {x : ExitInfo} (exits : apicTrapAnswer s e = some x) :
    apicTrap e s = .error (.done .vmexit) ((clearedEvent s e).exited x) := by
  rw [run_apicTrap_on h, exits]
  rfl

theorem stepApic_eq : stepApic = apicTrap 12 >>= fun _ => apicTrap 13 >>= fun _ => apicTrap 14 := rfl

theorem run_stepApic_off (vtpr : ¬evOn s 12) (veoi : ¬evOn s 13) (vapicwr : ¬evOn s 14) : stepApic s = .ok () s :=
  (run_bind_ok (run_apicTrap_off vtpr)).trans <| (run_bind_ok (run_apicTrap_off veoi)).trans (run_apicTrap_off vapicwr)

/-- Step 3 gets to its first unmasked event (R232). -/
theorem run_stepApic_pass {e : Nat} (he : e = 12 ∨ e = 13 ∨ e = 14) (on : evOn s e)
    (first : ∀ d, 12 ≤ d → d < e → ¬evOn s d) (pass : apicTrapAnswer s e = none) :
    stepApic s = stepApic (clearedEvent s e) := by
  have trap := run_apicTrap_pass on pass
  have skip (d : Nat) (low : 12 ≤ d) (lt : d < e) : apicTrap d s = .ok () s
      ∧ apicTrap d (clearedEvent s e) = .ok () (clearedEvent s e) :=
    ⟨run_apicTrap_off (first d low lt), run_apicTrap_off (mt evOn_of_clearedEvent (first d low lt))⟩
  rw [stepApic_eq]
  rcases he with rfl | rfl | rfl
  · exact run_bind_congr trap
  · obtain ⟨off12, off12'⟩ := skip 12 (by omega) (by omega)
    rw [run_bind_ok off12, run_bind_ok off12']
    exact run_bind_congr trap
  · obtain ⟨off12, off12'⟩ := skip 12 (by omega) (by omega)
    obtain ⟨off13, off13'⟩ := skip 13 (by omega) (by omega)
    rw [run_bind_ok off12, run_bind_ok off12', run_bind_ok off13, run_bind_ok off13']
    exact trap

theorem run_stepApic_exit {e : Nat} (he : e = 12 ∨ e = 13 ∨ e = 14) (on : evOn s e)
    (first : ∀ d, 12 ≤ d → d < e → ¬evOn s d) {x : ExitInfo} (exits : apicTrapAnswer s e = some x) :
    stepApic s = .error (.done .vmexit) ((clearedEvent s e).exited x) := by
  have trap := run_apicTrap_exit on exits
  have skip (d : Nat) (low : 12 ≤ d) (lt : d < e) : apicTrap d s = .ok () s := run_apicTrap_off (first d low lt)
  rcases he with rfl | rfl | rfl
  · exact run_bind_error trap
  · exact (run_bind_ok (skip 12 (by omega) (by omega))).trans (run_bind_error trap)
  · exact (run_bind_ok (skip 12 (by omega) (by omega))).trans
      ((run_bind_ok (skip 13 (by omega) (by omega))).trans trap)

/-! ### Step 4: SMI, INIT and the monitor trap flag (R233 to R235) -/

theorem run_stepSmi_off (h : evOn s 1 → ¬gifIs1 s) : stepSmi s = .ok () s := by
  refine (run_bind_ok (run_get s)).trans ?_
  rw [show (s.unmasked evSmi && s.gifOn) = false from unmasked_and_gifOn_eq_false h]
  rfl

theorem run_stepSmi_on (on : evOn s 1) (gif : gifIs1 s) : stepSmi s
    = (askPlain (.event .smi) >>= fun _ => emit .smmEntry >>= fun _ => finish .smmEntry) (clearedEvent s 1) := by
  refine (run_bind_ok (run_get s)).trans ?_
  rw [show (s.unmasked evSmi && s.gifOn) = true from unmasked_and_gifOn on gif]
  rfl

theorem run_stepSmi_pass (on : evOn s 1) (gif : gifIs1 s) (pass : plainAnswer s (.event .smi) = none) :
    stepSmi s = .error (.done .smmEntry) ((clearedEvent s 1).logged [.smmEntry]) :=
  (run_stepSmi_on on gif).trans (run_bind_ok (run_askPlain_pass (s := clearedEvent s 1) pass))

theorem run_stepSmi_exit (on : evOn s 1) (gif : gifIs1 s) {x : ExitInfo} (exits : plainAnswer s (.event .smi) = some x) :
    stepSmi s = .error (.done .vmexit) ((clearedEvent s 1).exited x) :=
  (run_stepSmi_on on gif).trans (run_bind_error (run_askPlain_exit (s := clearedEvent s 1) exits))

theorem run_stepInit_off (h : evOn s 2 → ¬gifIs1 s) : stepInit s = .ok () s := by
  refine (run_bind_ok (run_get s)).trans ?_
  rw [show (s.unmasked evInit && s.gifOn) = false from unmasked_and_gifOn_eq_false h]
  rfl

theorem run_stepInit_on (on : evOn s 2) (gif : gifIs1 s) : stepInit s
    = (askPlain (.event .init) >>= fun _ => modify resetState >>= fun _ => emit (.reset .init) >>= fun _ =>
        finish .reset) (clearedEvent s 2) := by
  refine (run_bind_ok (run_get s)).trans ?_
  rw [show (s.unmasked evInit && s.gifOn) = true from unmasked_and_gifOn on gif]
  rfl

theorem run_stepInit_pass (on : evOn s 2) (gif : gifIs1 s) (pass : plainAnswer s (.event .init) = none) :
    stepInit s = .error (.done .reset) (resetTo s .init) := by
  rw [run_stepInit_on on gif, run_bind_ok (run_askPlain_pass (s := clearedEvent s 2) pass)]
  rfl

theorem run_stepInit_exit (on : evOn s 2) (gif : gifIs1 s) {x : ExitInfo} (exits : plainAnswer s (.event .init) = some x) :
    stepInit s = .error (.done .vmexit) ((clearedEvent s 2).exited x) :=
  (run_stepInit_on on gif).trans (run_bind_error (run_askPlain_exit (s := clearedEvent s 2) exits))

theorem run_stepMtf_off (h : ¬evOn s 4) : stepMtf s = .ok () s := by
  refine (run_bind_ok (run_get s)).trans ?_
  rw [show s.unmasked evMtf = false from unmasked_eq_false h]
  rfl

theorem run_stepMtf_on (h : evOn s 4) :
    stepMtf s = .error (.done .vmexit) ((clearedEvent s 4).exited ⟨.mtf, 0#64⟩) := by
  refine (run_bind_ok (run_get s)).trans ?_
  rw [show s.unmasked evMtf = true from unmasked_iff.mpr h]
  rfl

/-! ### Step 5: the accumulated debug trap (R236, R237) -/

theorem run_stepDebug_lost (h : s.sched.debugTrap = 0#16 ∨ s.sched.inhibit.getLsbD 1 = true) :
    stepDebug s = .ok () (trapLost s) := by
  refine (run_bind_ok (run_get s)).trans ?_
  cases inhibited : s.sched.inhibit.getLsbD 1 with
  | true => rfl
  | false =>
    have none := h.resolve_right (by rw [inhibited]; exact Bool.false_ne_true)
    have same : trapLost s = s := by
      unfold trapLost
      rw [← none]
      rfl
    rw [same, none]
    rfl

theorem run_stepDebug_raise (inhibit : s.sched.inhibit.getLsbD 1 = false) (trap : s.sched.debugTrap ≠ 0#16) :
    stepDebug s = .error (.raise 1#8 0#16) s := by
  refine (run_bind_ok (run_get s)).trans ?_
  rw [inhibit, bne_iff_ne.mpr trap]
  rfl

/-! ### The pass from each of its steps on (R224) -/

/-- Steps 6 and 7. -/
def passFromStep6 : M Answer := do
  let d ← stepInterrupts
  modify armSingleStep
  modify endPass
  pure (passAnswer d)

/-- Step 5 and what follows. -/
def passFromStep5 : M Answer := do
  stepDebug
  passFromStep6

/-- Step 4 and what follows. -/
def passFromStep4 : M Answer := do
  stepSmi
  stepInit
  stepMtf
  passFromStep5

/-- Step 3 and what follows. -/
def passFromStep3 : M Answer := do
  stepApic
  passFromStep4

/-- The pass of a vCPU that is not halted. -/
def passFromStep1 : M Answer := do
  stepKill
  stepTaskTrap
  passFromStep3

theorem boundary_eq : boundary = haltedFirst >>= fun _ => passFromStep1 := rfl

theorem run_boundary_active (active : s.sched.activity = .active) : boundary s = passFromStep1 s := by
  rw [boundary_eq, run_bind_ok (run_haltedFirst_active active)]

theorem run_boundary_halted {x : Stop} (halted : s.sched.activity ≠ .active) (h : haltedStep s = .error x s) :
    boundary s = .error x s :=
  run_bind_error ((run_haltedFirst_halted halted).trans h)

/-- A kill request is the first thing that either form of the pass looks at (R222, R226). -/
theorem run_boundary_killed (kill : s.inp.killRequest = true) : boundary s = .error (.done .killed) s := by
  by_cases active : s.sched.activity = .active
  · exact (run_boundary_active active).trans (run_bind_error (run_stepKill_killed kill))
  · exact run_boundary_halted active (run_bind_error (run_stepKill_killed kill))

theorem PastStep1.run (h : PastStep1 s) : boundary s = (stepTaskTrap >>= fun _ => passFromStep3) s :=
  (run_boundary_active h.active).trans (run_bind_ok (run_stepKill h.kill))

theorem PastStep1.run_step3 (h : PastStep1 s) (trap : s.sched.debugTrap.getLsbD 15 = false) :
    boundary s = passFromStep3 s :=
  h.run.trans (run_bind_ok (run_stepTaskTrap trap))

theorem PastStep3.run (h : PastStep3 s) : boundary s = passFromStep4 s :=
  (h.run_step3 h.taskTrap).trans (run_bind_ok (run_stepApic_off h.vtpr h.veoi h.vapicwr))

theorem PastStep4.run (h : PastStep4 s) : boundary s = passFromStep5 s :=
  h.toPastStep3.run.trans <| (run_bind_ok (run_stepSmi_off h.smi)).trans <|
    (run_bind_ok (run_stepInit_off h.init)).trans (run_bind_ok (run_stepMtf_off h.mtf))

theorem AtStep6.run (h : AtStep6 s) : boundary s = passFromStep6 (trapLost s) :=
  h.toPastStep4.run.trans (run_bind_ok (run_stepDebug_lost h.noTrap))

/-! ### Steps 1 to 5 of the pass -/

/-- Settles O43: both forms of the pass begin with the kill request, and a woken vCPU goes on as an active one. -/
theorem killAndHalt : Obligations.KillAndHalt := by
  intro s live
  refine ⟨fun kill => runCommand_eq_doneIn_of_done live (run_boundary_killed kill), fun kill halted asleep => ?_,
    fun kill halted wakes => ?_⟩
  · exact runCommand_eq_doneIn_of_done live (run_boundary_halted halted (run_haltedStep_halted kill asleep))
  · have woken := (run_haltedFirst_halted halted).trans (run_haltedStep_woken kill wakes)
    exact runCommand_congr live live ((run_bind_ok woken).trans (run_boundary_active rfl).symm)

/-- Settles O44: where a trap is the first thing due, the pass comes to it in the state it began in. -/
theorem boundaryTraps : Obligations.BoundaryTraps := by
  refine ⟨fun s past trap => ?_, fun s e past noTrap he on first => ⟨fun pass => ?_, fun x exits => ?_⟩,
    fun s past inhibit trap => ?_⟩
  · exact runCommand_eq_raisedIn_same (by decide) (past.run.trans (run_bind_error (run_stepTaskTrap_raise trap)))
  · have cleared : PastStep1 (clearedEvent s e) := ⟨past.live, past.active, past.kill⟩
    refine runCommand_congr past.live past.live ((past.run_step3 noTrap).trans ?_)
    exact (run_bind_congr (run_stepApic_pass he on first pass)).trans (cleared.run_step3 noTrap).symm
  · exact runCommand_eq_doneIn_of_done past.live
      ((past.run_step3 noTrap).trans (run_bind_error (run_stepApic_exit he on first exits)))
  · exact runCommand_eq_raisedIn_same (by decide) (past.run.trans (run_bind_error (run_stepDebug_raise inhibit trap)))

/-- Settles O45: the first of the three that is due, and let through by GIF, ends the pass after its bit is cleared. -/
theorem boundaryStepFour : Obligations.BoundaryStepFour := by
  intro s past
  refine ⟨fun smi gif => ?_, fun noSmi init gif => ?_, fun noSmi noInit mtf => ?_⟩
  · have run {t : State} {a : Answer} (h : stepSmi s = .error (.done a) t) : exec .boundary s = doneIn a t :=
      runCommand_eq_doneIn_of_done past.live (past.run.trans (run_bind_error h))
    exact ⟨fun pass => run (run_stepSmi_pass smi gif pass), fun x exits => run (run_stepSmi_exit smi gif exits)⟩
  · have run {t : State} {a : Answer} (h : stepInit s = .error (.done a) t) : exec .boundary s = doneIn a t :=
      runCommand_eq_doneIn_of_done past.live
        (past.run.trans ((run_bind_ok (run_stepSmi_off noSmi)).trans (run_bind_error h)))
    exact ⟨fun pass => run (run_stepInit_pass init gif pass), fun x exits => run (run_stepInit_exit init gif exits)⟩
  · exact runCommand_eq_doneIn_of_done past.live (past.run.trans <| (run_bind_ok (run_stepSmi_off noSmi)).trans <|
      (run_bind_ok (run_stepInit_off noInit)).trans (run_bind_error (run_stepMtf_on mtf)))

end Sys2Proof.Machine
end

section
/-! SUPPORT. Step 6 of the boundary pass and its end (R237 to R244, R251, R252): which source an open step 6 takes, what each
source does, and what the pass leaves. -/

namespace Sys2Proof.Machine

variable {s t : State} {v : Vector8} {x : ExitInfo}

/-! ### What a completed delivery leaves (R292, R300, R345, R372) -/

theorem gateFlags_tf (g : Gate) (f : Word) : (gateFlags g f).getLsbD 8 = false := by
  unfold gateFlags
  split <;> simp

section
variable {type : BitVec 3} {push : Bool} {ec : Half}

theorem DeliversTo.tf (h : DeliversTo s v type push ec t) : t.ctx.rflags.getLsbD 8 = false := by
  cases h with
  | real =>
    show (s.ctx.rflags &&& ~~~0x50300#64).getLsbD 8 = false
    simp
  | same | inner | long => exact gateFlags_tf _ _

theorem DeliversTo.sched (h : DeliversTo s v type push ec t) :
    t.sched = { s.sched with debugTrap := 0#16, inhibit := 0#2 } := by
  cases h with
  | real | same | inner | long => rfl

theorem DeliversTo.prevRip (h : DeliversTo s v type push ec t) : t.exc.prevRip = t.ctx.rip := by
  cases h with
  | real | same | inner | long => rfl

end

/-! ### The end of the pass (R251, R252) -/

theorem endPass_armSingleStep (s : State) :
    endPass (armSingleStep s) = s.setSched (passEnd s s.sched.debugTrap) := by
  unfold armSingleStep passEnd Context.tf
  split <;> rfl

/-- A delivery has cleared TF and the inhibition itself, so the end of the pass leaves the state as it is. -/
theorem DeliversTo.passEnd {type : BitVec 3} {push : Bool} {ec : Half} (h : DeliversTo s v type push ec t) :
    t.setSched (passEnd t t.sched.debugTrap) = t := by
  unfold Machine.passEnd
  rw [h.tf, h.sched]
  simp only [Bool.false_eq_true, if_false]
  exact h.sched ▸ t.setSched_self

theorem run_passFromStep6 {d : Option Vector8} (h : stepInterrupts s = .ok d t) :
    passFromStep6 s = .ok (passAnswer d) (t.setSched (passEnd t t.sched.debugTrap)) := by
  refine (run_bind_ok h).trans ((run_bind_ok (run_modify _ _)).trans ((run_bind_ok (run_modify _ _)).trans ?_))
  rw [endPass_armSingleStep]
  rfl

/-! How the pass ends where step 6 is reached, by what step 6 does in the state without its inhibited trap. -/

theorem AtStep6.exec_exited (h : AtStep6 s) (run : stepInterrupts (trapLost s) = .error (.done .vmexit) t) :
    exec .boundary s = doneIn .vmexit t :=
  runCommand_eq_doneIn_of_done h.live (h.run.trans (run_bind_error run))

theorem AtStep6.exec_nothing (h : AtStep6 s) (run : stepInterrupts (trapLost s) = .ok none t) :
    exec .boundary s = doneIn (.ok 0#64) (t.setSched (passEnd t t.sched.debugTrap)) :=
  runCommand_eq_doneIn h.live (h.run.trans (run_passFromStep6 run))

theorem AtStep6.exec_delivered (h : AtStep6 s) {u : State} {type : BitVec 3} {push : Bool} {ec : Half}
    (delivers : DeliversTo u v type push ec t) (run : stepInterrupts (trapLost s) = .ok (some v) t) :
    exec .boundary s = doneIn (.delivered v) t := by
  refine (runCommand_eq_doneIn h.live (h.run.trans (run_passFromStep6 run))).trans ?_
  rw [delivers.passEnd]
  rfl

/-! ### What step 6 takes (R238) -/

/-- The source that an open step 6 takes (R238). -/
def openStep6 (s : State) : M (Option Vector8) :=
  if s.unmasked 5 then takePreempt
  else if s.unmasked 7 then vmExit ⟨.nmiWindow, 0#64⟩
  else if s.unmasked 0 then takeNmi
  else if s.unmaskedIF 6 then vmExit ⟨.interruptWindow, 0#64⟩
  else if s.unmaskedIF 10 || s.unmaskedIF 11 || s.unmaskedIF 9 then takeMaskable
  else if s.unmaskedIF 8 then takeSvmVirq
  else if s.unmasked 15 then takeDma
  else pure none

theorem run_stepInterrupts_closed (h : s.sched.inhibit.getLsbD 0 = true ∨ ¬gifIs1 s) : stepInterrupts s = .ok none s := by
  refine (run_bind_ok (run_get s)).trans ?_
  rw [if_pos]
  · rfl
  · rcases h with inhibited | gif
    · rw [inhibited, Bool.true_or]
    · rw [Bool.eq_false_iff.mpr (mt gifOn_iff.mp gif), Bool.not_false, Bool.or_true]

theorem run_stepInterrupts_open (inhibit : s.sched.inhibit.getLsbD 0 = false) (gif : gifIs1 s) :
    stepInterrupts s = openStep6 s s := by
  refine (run_bind_ok (run_get s)).trans ?_
  rw [inhibit, gifOn_iff.mpr gif]
  rfl

theorem Step6Open.run (h : Step6Open s) {m : M (Option Vector8)} (takes : openStep6 (trapLost s) = m) :
    stepInterrupts (trapLost s) = m (trapLost s) := by
  rw [run_stepInterrupts_open (s := trapLost s) h.inhibit h.gif, takes]

theorem openStep6_preempt (on : evOn s 5) : openStep6 s = takePreempt := by
  unfold openStep6
  rw [unmasked_iff.mpr on]
  rfl

section
variable (preempt : ¬evOn s 5)
include preempt

theorem openStep6_vnmi (on : evOn s 7) : openStep6 s = vmExit ⟨.nmiWindow, 0#64⟩ := by
  unfold openStep6
  rw [unmasked_eq_false preempt, unmasked_iff.mpr on]
  rfl

variable (vnmi : ¬evOn s 7)
include vnmi

theorem openStep6_nmi (on : evOn s 0) : openStep6 s = takeNmi := by
  unfold openStep6
  rw [unmasked_eq_false preempt, unmasked_eq_false vnmi, unmasked_iff.mpr on]
  rfl

variable (nmi : ¬evOn s 0)
include nmi

theorem openStep6_intWin (ifOn : ifIs1 s) (on : evOn s 6) : openStep6 s = vmExit ⟨.interruptWindow, 0#64⟩ := by
  unfold openStep6
  rw [unmasked_eq_false preempt, unmasked_eq_false vnmi, unmasked_eq_false nmi, unmaskedIF_iff.mpr ⟨on, ifOn⟩]
  rfl

variable (intwin : ifIs1 s → ¬evOn s 6)
include intwin

theorem openStep6_maskable (ifOn : ifIs1 s) (on : evOn s 9 ∨ evOn s 10 ∨ evOn s 11) : openStep6 s = takeMaskable := by
  have waiting : (s.unmaskedIF 10 || s.unmaskedIF 11 || s.unmaskedIF 9) = true := by
    simp only [Bool.or_eq_true, unmaskedIF_iff]
    tauto
  unfold openStep6
  rw [unmasked_eq_false preempt, unmasked_eq_false vnmi, unmasked_eq_false nmi, unmaskedIF_eq_false intwin, waiting]
  rfl

variable (maskable : ifIs1 s → ¬evOn s 9 ∧ ¬evOn s 10 ∧ ¬evOn s 11)
include maskable

/-- With no maskable interrupt waiting (R238). -/
theorem openStep6_noMaskable : openStep6 s
    = if s.unmaskedIF 8 then takeSvmVirq else if s.unmasked 15 then takeDma else pure none := by
  have vintr (i : ifIs1 s) : ¬evOn s 9 := by
    obtain ⟨off, -, -⟩ := maskable i
    exact off
  have intr (i : ifIs1 s) : ¬evOn s 10 := by
    obtain ⟨-, off, -⟩ := maskable i
    exact off
  have lapic (i : ifIs1 s) : ¬evOn s 11 := by
    obtain ⟨-, -, off⟩ := maskable i
    exact off
  unfold openStep6
  rw [unmasked_eq_false preempt, unmasked_eq_false vnmi, unmasked_eq_false nmi, unmaskedIF_eq_false intwin,
    unmaskedIF_eq_false vintr, unmaskedIF_eq_false intr, unmaskedIF_eq_false lapic]
  rfl

end

/-! ### What each source does (R239 to R244)

A source asks the layer after its own writes; they touch nothing that the answer depends on, so the answer in `s` is the
one it gets. -/

theorem run_deliverAsync {type : BitVec 3} (h : DeliversTo s v type false 0#16 t) :
    deliverAsync v type s = .ok (some v) t := by
  refine (run_bind_ok (deliver_ok h)).trans ?_
  have same : t.setExc { t.exc with prevRip := t.ctx.rip } = t := by
    rw [← h.prevRip]
    rfl
  exact (run_bind_ok (run_modify _ _)).trans (congrArg (EStateM.Result.ok (some v)) same)

theorem run_takePreempt (s : State) :
    takePreempt s = .error (.done .vmexit) ((clearedEvent s 5).exited ⟨.preemptionTimer, 0#64⟩) := rfl

theorem run_takeNmi_pass (pass : plainAnswer s (.event .nmi) = none) (h : DeliversTo (nmiTaken s) 2#8 2#3 false 0#16 t) :
    takeNmi s = .ok (some 2#8) t :=
  (run_bind_ok (run_modifySched _ _)).trans <| (run_bind_ok (run_askPlain_pass (by exact pass))).trans <|
    (run_bind_ok (run_modifyExc _ _)).trans (run_deliverAsync h)

theorem run_takeNmi_exit (exits : plainAnswer s (.event .nmi) = some x) :
    takeNmi s = .error (.done .vmexit) ((nmiTaken s).exited x) :=
  (run_bind_ok (run_modifySched _ _)).trans (run_bind_error (run_askPlain_exit (by exact exits)))

theorem interruptTaken_nil (s : State) (e : Nat) :
    interruptTaken s e [] = (clearedEvent s e).setExc { s.exc with extBit := true } := by
  rw [interruptTaken, State.logged_nil]

theorem run_takeVirtual (h : DeliversTo (interruptTaken s 9 []) s.inp.vapicVector 0#3 false 0#16 t) :
    takeVirtual s = .ok (some s.inp.vapicVector) t := by
  rw [interruptTaken_nil] at h
  exact (run_bind_ok (run_clearPending 9)).trans <| (run_bind_ok (run_get _)).trans <|
    (run_bind_ok (run_modifyExc _ _)).trans (run_deliverAsync h)

/-- A physical interrupt whose pending bit is cleared (R243). -/
theorem run_takeExternal_pass {e : Nat} (pass : plainAnswer s (.event (.intr v)) = none)
    (h : DeliversTo (interruptTaken s e [.intAck v]) v 0#3 false 0#16 t) :
    takeExternal v (clearedEvent s e) = .ok (some v) t :=
  (run_bind_ok (run_emit _ _)).trans <| (run_bind_ok (run_askPlain_pass (by exact pass))).trans <|
    (run_bind_ok (run_modifyExc _ _)).trans (run_deliverAsync h)

theorem run_takeExternal_exit (e : Nat) (exits : plainAnswer s (.event (.intr v)) = some x) :
    takeExternal v (clearedEvent s e) = .error (.done .vmexit) ((interruptTaken s e [.intAck v]).exited x) :=
  (run_bind_ok (run_emit _ _)).trans (run_bind_error (run_askPlain_exit (by exact exits)))

theorem run_takeMaskable_virtual (ifOn : ifIs1 s) (on : evOn s 9) : takeMaskable s = takeVirtual s := by
  refine (run_bind_ok (run_get s)).trans ?_
  rw [show s.unmaskedIF evVIntr = true from unmaskedIF_iff.mpr ⟨on, ifOn⟩]
  rfl

theorem run_takeMaskable_lapic (ifOn : ifIs1 s) (off : ¬evOn s 9) (on : evOn s 11) :
    takeMaskable s = takeExternal s.inp.lapicVector (clearedEvent s 11) := by
  refine (run_bind_ok (run_get s)).trans ?_
  rw [show s.unmaskedIF evVIntr = false from unmaskedIF_eq_false fun _ => off,
    show s.unmaskedIF evLapic = true from unmaskedIF_iff.mpr ⟨on, ifOn⟩]
  rfl

theorem run_takeMaskable_pic (off : ¬evOn s 9) (off' : ¬evOn s 11) :
    takeMaskable s = takeExternal s.inp.picVector (clearedEvent s 10) := by
  refine (run_bind_ok (run_get s)).trans ?_
  rw [show s.unmaskedIF evVIntr = false from unmaskedIF_eq_false fun _ => off,
    show s.unmaskedIF evLapic = false from unmaskedIF_eq_false fun _ => off']
  rfl

theorem run_takeSvmVirq_pass (pass : plainAnswer s (.event .vintr) = none)
    (h : DeliversTo ((clearedEvent s 8).logged [.virtIntAck s.inp.svmVector]) s.inp.svmVector 0#3 false 0#16 t) :
    takeSvmVirq s = .ok (some s.inp.svmVector) t :=
  (run_bind_ok (run_clearPending 8)).trans <| (run_bind_ok (run_get _)).trans <| (run_bind_ok (run_emit _ _)).trans <|
    (run_bind_ok (run_askPlain_pass (by exact pass))).trans (run_deliverAsync h)

theorem run_takeSvmVirq_exit (exits : plainAnswer s (.event .vintr) = some x) : takeSvmVirq s
    = .error (.done .vmexit) (((clearedEvent s 8).logged [.virtIntAck s.inp.svmVector]).exited x) :=
  (run_bind_ok (run_clearPending 8)).trans <| (run_bind_ok (run_get _)).trans <| (run_bind_ok (run_emit _ _)).trans <|
    run_bind_error (run_askPlain_exit (by exact exits))

theorem run_takeDma (s : State) : takeDma s = .ok none ((clearedEvent s 15).logged [.dmaHoldAck]) := rfl

/-! ### Step 6 of the pass -/

theorem run_stepInterrupts_silent (h : Step6Silent s) : stepInterrupts s = .ok none s := by
  by_cases closed : s.sched.inhibit.getLsbD 0 = true ∨ ¬gifIs1 s
  · exact run_stepInterrupts_closed closed
  · obtain ⟨inhibit, gif⟩ := not_or.mp closed
    obtain ⟨preempt, vnmi, nmi, dma, maskable⟩ := (h.resolve_left inhibit).resolve_left gif
    have none (i : ifIs1 s) : ¬evOn s 9 ∧ ¬evOn s 10 ∧ ¬evOn s 11 := by
      obtain ⟨-, intr, lapic, vintr, -⟩ := maskable i
      exact ⟨vintr, intr, lapic⟩
    have svmVirq (i : ifIs1 s) : ¬evOn s 8 := by
      obtain ⟨-, -, -, -, off⟩ := maskable i
      exact off
    rw [run_stepInterrupts_open (Bool.eq_false_iff.mpr inhibit) (not_not.mp gif),
      openStep6_noMaskable preempt vnmi nmi (fun i => (maskable i).1) none, unmaskedIF_eq_false svmVirq,
      unmasked_eq_false dma]
    rfl

/-- Settles O42: step 6 takes nothing, and the end of the pass is all that changes the state without its inhibited trap. -/
theorem quietPass : Obligations.QuietPass := fun s past noTrap silent =>
  AtStep6.exec_nothing ⟨past, noTrap⟩ (run_stepInterrupts_silent (s := trapLost s) silent)

/-- Settles O46: each exit is what an open step 6 takes where the sources before it are off. -/
theorem boundaryWindowExits : Obligations.BoundaryWindowExits := fun _ ready =>
  ⟨fun preempt => ready.exec_exited ((ready.run (openStep6_preempt preempt)).trans (run_takePreempt _)),
    fun preempt vnmi => ready.exec_exited ((ready.run (openStep6_vnmi preempt vnmi)).trans (run_vmExit _ _)),
    fun preempt vnmi nmi ifOn intwin =>
      ready.exec_exited ((ready.run (openStep6_intWin preempt vnmi nmi ifOn intwin)).trans (run_vmExit _ _))⟩

/-- Settles O47: past the two exits an open step 6 takes the NMI, whose delivery has left what the end of the pass leaves. -/
theorem boundaryNmi : Obligations.BoundaryNmi := by
  intro s ready preempt vnmi nmi
  have run : stepInterrupts (trapLost s) = takeNmi (trapLost s) := ready.run (openStep6_nmi preempt vnmi nmi)
  exact ⟨fun t pass delivers => ready.exec_delivered delivers (run.trans (run_takeNmi_pass pass delivers)),
    fun x exits => ready.exec_exited (run.trans (run_takeNmi_exit exits))⟩

theorem MaskableTurn.run_maskable (h : MaskableTurn s) (ifOn : ifIs1 s) (on : evOn s 9 ∨ evOn s 10 ∨ evOn s 11) :
    stepInterrupts (trapLost s) = takeMaskable (trapLost s) :=
  h.run (openStep6_maskable h.preempt h.vnmi h.nmi h.intwin ifOn on)

theorem MaskableTurn.run_noMaskable (h : MaskableTurn s) (maskable : ifIs1 s → ¬evOn s 9 ∧ ¬evOn s 10 ∧ ¬evOn s 11) :
    stepInterrupts (trapLost s)
      = (if s.unmaskedIF 8 then takeSvmVirq else if s.unmasked 15 then takeDma else pure none) (trapLost s) :=
  h.run (openStep6_noMaskable (s := trapLost s) h.preempt h.vnmi h.nmi h.intwin maskable)

/-- Settles O48: the three sources in the order of `takeMaskable`, each up to the end of its delivery or the layer's exit. -/
theorem boundaryMaskable : Obligations.BoundaryMaskable := by
  intro s turn ifOn
  refine ⟨fun virt t delivers => ?_, fun noVirt lapic => ?_, fun noVirt noLapic pic => ?_⟩
  · have run := (turn.run_maskable ifOn (.inl virt)).trans (run_takeMaskable_virtual (s := trapLost s) ifOn virt)
    exact turn.exec_delivered delivers (run.trans (run_takeVirtual delivers))
  · have run := (turn.run_maskable ifOn (.inr (.inr lapic))).trans
      (run_takeMaskable_lapic (s := trapLost s) ifOn noVirt lapic)
    exact ⟨fun t pass delivers => turn.exec_delivered delivers (run.trans (run_takeExternal_pass pass delivers)),
      fun x exits => turn.exec_exited (run.trans (run_takeExternal_exit 11 exits))⟩
  · have run := (turn.run_maskable ifOn (.inr (.inl pic))).trans
      (run_takeMaskable_pic (s := trapLost s) noVirt noLapic)
    exact ⟨fun t pass delivers => turn.exec_delivered delivers (run.trans (run_takeExternal_pass pass delivers)),
      fun x exits => turn.exec_exited (run.trans (run_takeExternal_exit 10 exits))⟩

/-- Settles O49: without a maskable interrupt step 6 takes the SVM virtual interrupt, and without that one the DMA hold. -/
theorem boundarySvmAndDma : Obligations.BoundarySvmAndDma := by
  intro s turn
  refine ⟨fun ifOn vintr intr lapic virq => ?_, fun none dma => ?_⟩
  · have run := turn.run_noMaskable fun _ => ⟨vintr, intr, lapic⟩
    rw [unmaskedIF_iff.mpr ⟨virq, ifOn⟩, if_pos rfl] at run
    exact ⟨fun t pass delivers => turn.exec_delivered delivers (run.trans (run_takeSvmVirq_pass pass delivers)),
      fun x exits => turn.exec_exited (run.trans (run_takeSvmVirq_exit exits))⟩
  · have run := turn.run_noMaskable fun ifOn => (none ifOn).2
    rw [unmaskedIF_eq_false fun ifOn => (none ifOn).1, if_neg Bool.false_ne_true, unmasked_iff.mpr dma, if_pos rfl] at run
    exact turn.exec_nothing (run.trans (run_takeDma _))

end Sys2Proof.Machine
end

section
/-! SUPPORT. A boundary pass sets no bit of `pending_event` (R250, R221): every step of it, and every delivery and exception it
comes to, clears pending bits or leaves them. -/

namespace Sys2Proof.Machine

variable {α β : Type}

/-! ### The relation -/

/-- Every event that waits after was waiting before. -/
def noNewEvent (s s' : State) : Prop := ∀ e, s'.sched.pending.getLsbD e = true → s.sched.pending.getLsbD e = true

theorem noNewEvent_of_and (s : State) (d : Sched) (m : BitVec 16) (h : d.pending = s.sched.pending &&& m) :
    noNewEvent s (s.setSched d) := by
  intro e on
  rw [State.setSched_sched, h, BitVec.getLsbD_and, Bool.and_eq_true] at on
  exact on.1

/-- A reset leaves no event waiting (R411). -/
theorem noNewEvent_of_reset {s s' : State} (h : s'.sched = Sched.reset) : noNewEvent s s' := by
  intro e on
  rw [h] at on
  simp [Sched.reset] at on

theorem noNewEvent_exceptionSteps : ExceptionSteps noNewEvent (fun s s' _ => noNewEvent s s') where
  refl _ _ h := h
  trans h1 h2 e on := h1 e (h2 e on)
  pre h1 h2 e on := h1 e (h2 e on)
  hist _ _ _ h := h
  port _ _ h := h
  mem _ _ _ _ _ h := h
  cr2 _ _ _ h := h
  ctx _ _ _ _ h := h
  sched _ _ h := h
  exc _ _ _ _ h := h
  raise _ _ _ _ _ h := h
  abort _ _ _ h := h
  taskSw _ _ _ _ _ _ _ h := h
  refuse _ _ _ h := h
  caught _ _ _ _ h := h
  lastType _ _ _ h := h
  commit _ _ h := h
  vmexit _ _ _ h := h
  tripleReset _ _ := noNewEvent_of_reset rfl
  shutDown _ _ _ h := h
  depth _ _ h := h

/-- The command sets no pending bit, however it ends. -/
def SetsNoEvent (m : M α) : Prop := Spec noNewEvent (fun s s' _ => noNewEvent s s') m

namespace SetsNoEvent

/-! ### The constructs of a rule (R7) -/

theorem andThen {m : M α} {f : α → M β} (hm : SetsNoEvent m) (hf : ∀ a, SetsNoEvent (f a)) : SetsNoEvent (m >>= f) :=
  Spec.bind noNewEvent_exceptionSteps.toChain hm hf

theorem reading {f : State → M β} (hf : ∀ s, SetsNoEvent (f s)) : SetsNoEvent (get >>= f) :=
  Spec.bind noNewEvent_exceptionSteps.toChain (Spec.get noNewEvent_exceptionSteps.toChain) hf

theorem skip (a : α) : SetsNoEvent (pure a : M α) := Spec.pure noNewEvent_exceptionSteps.toChain a

theorem when {c : Prop} [Decidable c] {m : M Unit} (hm : SetsNoEvent m) : SetsNoEvent (if c then m else pure ()) :=
  Spec.ite (fun _ => hm) fun _ => skip ()

theorem raiseIf (c : Bool) (v : Vector8) (ec : Half) : SetsNoEvent (raiseIf c v ec) := when fun _ _ h => h

theorem finish (a : Answer) : SetsNoEvent (finish a : M α) := fun _ _ h => h

theorem vmExit (x : ExitInfo) : SetsNoEvent (vmExit x : M α) := fun _ _ h => h

/-- A write that leaves the pending bits alone. -/
theorem write (f : State → State) (hf : ∀ s, noNewEvent s (f s) := by exact fun _ _ h => h) : SetsNoEvent (modify f) :=
  Spec.modify hf

theorem emit (e : Event) : SetsNoEvent (emit e) := write _

theorem setExt : SetsNoEvent setExt := write _

theorem clearPending (e : Nat) : SetsNoEvent (clearPending e) := write _ fun s => noNewEvent_of_and s _ (~~~(evBit e)) rfl

theorem obeyPlain (a : Option ExitInfo) : SetsNoEvent (obeyPlain a) := noNewEvent_exceptionSteps.obeyPlain a

theorem askPlain (q : PlainQuery) : SetsNoEvent (askPlain q) := noNewEvent_exceptionSteps.askPlain q

/-! ### The steps of the pass (R222 to R237) -/

theorem stepKill : SetsNoEvent stepKill := reading fun _ => when (finish _)

theorem haltedFirst : SetsNoEvent haltedFirst :=
  reading fun _ => when <| stepKill.andThen fun _ => reading fun _ => Spec.ite (fun _ => write _) fun _ => finish _

theorem stepTaskTrap : SetsNoEvent stepTaskTrap := reading fun _ => raiseIf _ _ _

theorem apicTrap (e : Nat) : SetsNoEvent (apicTrap e) :=
  reading fun _ => when <| (clearPending e).andThen fun _ => obeyPlain _

theorem stepApic : SetsNoEvent stepApic := (apicTrap _).andThen fun _ => (apicTrap _).andThen fun _ => apicTrap _

theorem stepSmi : SetsNoEvent stepSmi :=
  reading fun _ => when <| (clearPending _).andThen fun _ => (askPlain _).andThen fun _ => (emit _).andThen fun _ =>
    finish _

theorem stepInit : SetsNoEvent stepInit :=
  reading fun _ => when <| (clearPending _).andThen fun _ => (askPlain _).andThen fun _ =>
    (write resetState fun _ => noNewEvent_of_reset rfl).andThen fun _ => (emit _).andThen fun _ => finish _

theorem stepMtf : SetsNoEvent stepMtf := reading fun _ => when <| (clearPending _).andThen fun _ => vmExit _

theorem stepDebug : SetsNoEvent stepDebug := reading fun _ => Spec.ite (fun _ => write _) fun _ => raiseIf _ _ _

/-! ### Step 6 and the end of the pass (R238 to R244, R251, R252) -/

theorem deliverAsync (v : Vector8) (type : BitVec 3) : SetsNoEvent (deliverAsync v type) :=
  andThen (noNewEvent_exceptionSteps.deliver _ _ _ _) fun _ => (write _).andThen fun _ => skip _

theorem takeNmi : SetsNoEvent takeNmi :=
  (write _ fun s => noNewEvent_of_and s _ (~~~(evBit evNmi)) rfl).andThen fun _ => (askPlain _).andThen fun _ =>
    setExt.andThen fun _ => deliverAsync _ _

theorem takeExternal (v : Vector8) : SetsNoEvent (takeExternal v) :=
  (emit _).andThen fun _ => (askPlain _).andThen fun _ => setExt.andThen fun _ => deliverAsync _ _

theorem takeVirtual : SetsNoEvent takeVirtual :=
  (clearPending _).andThen fun _ => reading fun _ => setExt.andThen fun _ => deliverAsync _ _

theorem takeMaskable : SetsNoEvent takeMaskable :=
  reading fun _ => Spec.ite (fun _ => takeVirtual) fun _ =>
    Spec.ite (fun _ => (clearPending _).andThen fun _ => reading fun _ => takeExternal _) fun _ =>
    (clearPending _).andThen fun _ => reading fun _ => takeExternal _

theorem takeSvmVirq : SetsNoEvent takeSvmVirq :=
  (clearPending _).andThen fun _ => reading fun _ => (emit _).andThen fun _ => (askPlain _).andThen fun _ =>
    deliverAsync _ _

theorem takeDma : SetsNoEvent takeDma := (clearPending _).andThen fun _ => (emit _).andThen fun _ => skip _

theorem takePreempt : SetsNoEvent takePreempt := (clearPending _).andThen fun _ => vmExit _

theorem stepInterrupts : SetsNoEvent stepInterrupts :=
  reading fun _ => Spec.ite (fun _ => skip _) fun _ => Spec.ite (fun _ => takePreempt) fun _ =>
    Spec.ite (fun _ => vmExit _) fun _ => Spec.ite (fun _ => takeNmi) fun _ => Spec.ite (fun _ => vmExit _) fun _ =>
    Spec.ite (fun _ => takeMaskable) fun _ => Spec.ite (fun _ => takeSvmVirq) fun _ =>
    Spec.ite (fun _ => takeDma) fun _ => skip _

theorem armSingleStep : SetsNoEvent (modify armSingleStep) := by
  refine write _ fun s => ?_
  unfold Machine.armSingleStep
  split <;> exact fun _ h => h

theorem boundary : SetsNoEvent boundary :=
  haltedFirst.andThen fun _ => stepKill.andThen fun _ => stepTaskTrap.andThen fun _ => stepApic.andThen fun _ =>
    stepSmi.andThen fun _ => stepInit.andThen fun _ => stepMtf.andThen fun _ => stepDebug.andThen fun _ =>
    stepInterrupts.andThen fun _ => armSingleStep.andThen fun _ => (write endPass).andThen fun _ => skip _

/-- The pass with the exceptions it raises (R262). -/
theorem boundaryCommand : SetsNoEvent (onRaise Machine.boundary pure (exception maxExceptions)) :=
  Spec.onRaise noNewEvent_exceptionSteps.toChain (fun _ _ _ _ h => h) boundary (fun a => skip a)
    fun v ec => noNewEvent_exceptionSteps.exception _ v ec

end SetsNoEvent

/-- A command that keeps a relation however it ends answers in a state so related. -/
theorem Spec.related_of_next {R : State → State → Prop} {m : M Answer} (h : Spec R (fun s s' _ => R s s') m) {s t : State}
    (e : outcomeOf (m s) = .next t) : ∃ a s', t = s'.respond a ∧ R s s' := by
  cases run : m s with
  | ok a s' =>
    rw [run] at e
    cases e
    exact ⟨a, s', rfl, h.ok run⟩
  | error x s' =>
    rw [run] at e
    cases x with
    | done a =>
      cases e
      exact ⟨a, s', rfl, h.error run⟩
    | raise v ec => cases e
    | refuse r => cases e
    | depth => cases e

/-- Settles O50: no write of the pass, of a delivery or of an exception adds a pending bit, and a reset clears them all. -/
theorem passSetsNoEvent : Obligations.PassSetsNoEvent := by
  intro s t e
  cases ha : s.aborted with
  | true =>
    rw [exec_aborted .boundary ha] at e
    cases e
    exact fun _ on => on
  | false =>
    rw [exec_eq_runCommand, runCommand_eq ha] at e
    obtain ⟨a, s', rfl, kept⟩ := SetsNoEvent.boundaryCommand.related_of_next e
    exact kept

end Sys2Proof.Machine
end

section
/-! SUPPORT. The snapshot commands, and `RAISE` and `INT` from a given state (R260 to R279, R290): how the stages before a
delivery end at each of their exits, and what a raise comes to that ends in `DELIVERED`. -/

namespace Sys2Proof.Machine

variable {s t : State} {v : Vector8} {ec : Half} {x : ExitInfo}

/-! ### The snapshots (R276 to R278) -/

theorem run_instrStart :
    instrStart s = .ok (.ok 0#64) (s.setExc { s.exc with prevRip := s.ctx.rip, specRsp := false }) := rfl

theorem run_specRsp : specRsp s
    = .ok (.ok 0#64) (s.setExc { s.exc with prevRsp := s.ctx.rsp, prevSsp := s.ctx.ssp, specRsp := true }) := rfl

theorem run_commitRsp : commitRsp s = .ok (.ok 0#64) (s.setExc { s.exc with specRsp := false }) := rfl

/-- Settles O41: each snapshot command is one write of the exception state. -/
theorem snapshotCommands : Obligations.SnapshotCommands := fun _ live =>
  ⟨runCommand_eq_doneIn live run_instrStart, runCommand_eq_doneIn live run_specRsp,
    runCommand_eq_doneIn live run_commitRsp⟩

/-! ### The entry of `RAISE` (R260) -/

theorem run_raiseCommand (v : Vector8) (ec : Half) (addr : Word) (s : State) :
    raiseCommand v ec addr s = .error (.raise v ec) (raiseEntry s v addr) := by
  unfold raiseCommand recordFaultAddr raiseEntry
  by_cases hv : v = 14#8
  · subst hv
    rfl
  · rw [if_neg (by simpa using hv), if_neg hv]
    rfl

/-- `RAISE` answers what its exception comes to, once the fault address is recorded. -/
theorem exec_raise (live : s.aborted = false) (v : Vector8) (ec : Half) (addr : Word) :
    exec (.raise v ec addr) s = outcomeOf (exception maxExceptions v ec (raiseEntry s v addr)) :=
  runCommand_raise live (run_raiseCommand v ec addr s)

/-! The fault address of a #PF apart, the entry leaves everything as it was. -/

@[simp] theorem raiseEntry_exc (s : State) (v : Vector8) (addr : Word) : (raiseEntry s v addr).exc = s.exc := by
  unfold raiseEntry
  split <;> rfl

@[simp] theorem raiseEntry_cfg (s : State) (v : Vector8) (addr : Word) : (raiseEntry s v addr).cfg = s.cfg := by
  unfold raiseEntry
  split <;> rfl

@[simp] theorem plainAnswer_raiseEntry (s : State) (v : Vector8) (addr : Word) (q : PlainQuery) :
    plainAnswer (raiseEntry s v addr) q = plainAnswer s q := by
  unfold raiseEntry
  split <;> rfl

theorem raiseEntry_of_ne (hv : v ≠ 14#8) (s : State) (addr : Word) : raiseEntry s v addr = s := if_neg hv

/-- Settles O51: a delivery that `ExceptionTo` describes completes so, and the response is its vector. -/
theorem raiseDelivers : Obligations.RaiseDelivers := by
  intro v ec addr s t live delivered
  rw [exec_raise live, maxExceptions, run_exception_ok _ delivered]
  rfl

/-! ### The exits of the stages before the delivery (R262, R263, R266, R274) -/

theorem run_askExc_exit {push : Bool} {type : BitVec 3}
    (exits : plainAnswer s (.exc v ec push type s.exc.extBit s.exc.inEvent) = some x) :
    askExc v ec push type s = .error (.done .vmexit) (s.exited x) := by
  refine (run_bind_ok (run_get s)).trans ?_
  rw [exits]
  rfl

theorem run_exceptionStage_badVector (bad : 32#8 ≤ v) :
    exceptionStage v ec s = .error (.done .abort) (s.abortedBy .badVector) := by
  unfold exceptionStage
  rw [decide_eq_true bad]
  exact run_bind_error (run_abortIf_true _ s)

/-- The stages of `v` past the layer's answer, with the fixed-up code (R262). -/
def stagesPastLayer (v : Vector8) (code : Half) : M ExcStage := do
  rollbackIfFault (excInfo v).kind v
  tripleIfDouble
  commitIfDb v
  modifyExc fun e => { e with extBit := true }
  classify (excInfo v).etype (pushesCode v) code

theorem run_exceptionStage_vector (hv : v < 32#8) :
    exceptionStage v ec s
      = (askExc v (fixedCode v ec s.exc.extBit) (pushesCode v) 3#3 >>= fun _ =>
          stagesPastLayer v (fixedCode v ec s.exc.extBit)) s := by
  unfold exceptionStage stagesPastLayer
  rw [decide_eq_false (BitVec.not_le.mpr hv), excInfo_push v hv, ← fixErrorCode_eq]
  exact (run_bind_ok (run_abortIf_false _ s)).trans (run_bind_ok (run_get s))

theorem run_exceptionStage_exit (hv : v < 32#8)
    (exits : plainAnswer s (.exc v (fixedCode v ec s.exc.extBit) (pushesCode v) 3#3 s.exc.extBit s.exc.inEvent) = some x) :
    exceptionStage v ec s = .error (.done .vmexit) (s.exited x) :=
  (run_exceptionStage_vector hv).trans (run_bind_error (run_askExc_exit exits))

theorem run_tripleIfDouble_done {a : Answer} (double : s.exc.lastType = .doubleFault)
    (ends : (tripleFault : M Unit) s = .error (.done a) t) : tripleIfDouble s = .error (.done a) t := by
  refine (run_bind_ok (run_get s)).trans ?_
  rw [double]
  exact ends

/-- While a double fault is unresolved the stages come to `TripleFault()`, past the rollback. -/
theorem run_exceptionStage_tripleFault {a : Answer} (hv : v < 32#8) (double : s.exc.lastType = .doubleFault)
    (pass : plainAnswer s (.exc v (fixedCode v ec s.exc.extBit) (pushesCode v) 3#3 s.exc.extBit s.exc.inEvent) = none)
    (ends : (tripleFault : M Unit) (rolledBack v s) = .error (.done a) t) :
    exceptionStage v ec s = .error (.done a) t := by
  rw [run_exceptionStage_vector hv, run_bind_ok (run_askExc_pass pass)]
  refine (run_bind_ok (run_rollbackIfFault v hv s)).trans ?_
  exact run_bind_error (run_tripleIfDouble_done ((rolledBack_exc v s).trans double) ends)

/-- A raise whose stages end with an answer ends with it. -/
theorem exec_raise_done {addr : Word} {a : Answer} (live : s.aborted = false)
    (ends : exceptionStage v ec (raiseEntry s v addr) = .error (.done a) t) :
    exec (.raise v ec addr) s = doneIn a t := by
  have run : exception maxExceptions v ec (raiseEntry s v addr) = .error (.done a) t := run_bind_error ends
  rw [exec_raise live, run]
  rfl

/-! ### The triple fault (R274) -/

/-- A reset leaves nothing of what the entry and the rollback of the exception wrote. -/
theorem tripleReset_rolledBack (s : State) (v : Vector8) (addr : Word) :
    (rolledBack v (raiseEntry s v addr)).tripleReset = resetTo s .tripleFault := by
  unfold rolledBack raiseEntry
  split <;> split <;> rfl

theorem rolledBack_cfg (v : Vector8) (s : State) : (rolledBack v s).cfg = s.cfg := by
  unfold rolledBack
  split <;> rfl

/-- Settles O54: the stages of the exception come to `TripleFault()` in the rolled-back state, whatever the vector. -/
theorem excTripleFault : Obligations.TripleFault := by
  intro v ec addr s live hv double pass
  have triple := run_tripleFault (α := Unit) (rolledBack v (raiseEntry s v addr))
  rw [rolledBack_cfg, raiseEntry_cfg] at triple
  have ends {a : Answer} {t : State}
      (h : (tripleFault : M Unit) (rolledBack v (raiseEntry s v addr)) = .error (.done a) t) :
      exec (.raise v ec addr) s = doneIn a t :=
    exec_raise_done live (run_exceptionStage_tripleFault hv (by rwa [raiseEntry_exc])
      (by rwa [raiseEntry_exc, plainAnswer_raiseEntry]) h)
  constructor
  · intro action
    rw [if_pos action, tripleReset_rolledBack] at triple
    exact ends triple
  · intro action
    rw [if_neg (by simp [action])] at triple
    exact ends triple

/-! ### How `RAISE` and `INT` end (R260, R290) -/

theorem Answer.kind_of_not_quiet {a : Answer} (h : ¬a.Quiet) :
    a.kind = 2#4 ∨ a.kind = 9#4 ∨ a.kind = 3#4 ∨ a.kind = 6#4 ∨ a.kind = 7#4 ∨ a.kind = 15#4 := by
  cases a with
  | ok | deny | halted | killed | smmEntry => exact absurd (by simp [Answer.Quiet, Answer.kind]) h
  | delivered | taskSw | vmexit | reset | shutdown | abort => simp [Answer.kind]

theorem exec_raise_kind {addr : Word} (live : s.aborted = false) (e : exec (.raise v ec addr) s = .next t) :
    t.kind = 2#4 ∨ t.kind = 9#4 ∨ t.kind = 3#4 ∨ t.kind = 6#4 ∨ t.kind = 7#4 ∨ t.kind = 15#4 := by
  rw [exec_raise live] at e
  obtain ⟨a, s', rfl, loud⟩ := not_quiet_of_exception e
  rw [State.kind_respond]
  exact Answer.kind_of_not_quiet loud

theorem run_intCommand_badType {type : BitVec 3} (bad : type = 1#3 ∨ type = 7#3) (push : Bool) :
    intCommand v type push ec s = .error (.done .abort) (s.abortedBy .badCommand) := by
  rcases bad with rfl | rfl <;> rfl

theorem run_intCommand_exit {type : BitVec 3} {push : Bool} (asks : type = 5#3 ∨ type = 6#3)
    (exits : plainAnswer s (.exc v ec push type s.exc.extBit s.exc.inEvent) = some x) :
    intCommand v type push ec s = .error (.done .vmexit) (s.exited x) := by
  have asked := run_askExc_exit exits
  rcases asks with rfl | rfl <;> exact (run_bind_ok (run_abortIf_false _ s)).trans (run_bind_error asked)

/-- Settles O52: taking an exception gives no quiet answer, and each exit named is the first test of the rule that fires. -/
theorem raiseAndIntEnds : Obligations.RaiseAndIntEnds := by
  refine ⟨fun v ec addr s t live e => exec_raise_kind live e, fun v ec addr s live bad => ?_,
    fun v ec addr s x live hv exits => ?_,
    fun v type push ec s live bad => runCommand_eq_doneIn_of_done live (run_intCommand_badType bad push),
    fun v type push ec s x live asks exits => runCommand_eq_doneIn_of_done live (run_intCommand_exit asks exits)⟩
  · have notPf : v ≠ 14#8 := by bv_omega
    refine exec_raise_done live ?_
    rw [raiseEntry_of_ne notPf]
    exact run_exceptionStage_badVector bad
  · exact exec_raise_done live (run_exceptionStage_exit hv (by simpa using exits))

/-! ### An exception that ends normally (R262, R271, R273) -/

/-- A delivery that ends normally, with the exceptions of its faults: either it completes and is resolved, or it raises, and
the exception that is then taken with the same class unresolved ends normally. -/
theorem onRaise_deliver_eq_ok {push : Bool} {handler : Vector8 → Half → M Answer} {a : Answer}
    (e : onRaise (deliver v 3#3 push ec) (fun _ => resolved v) handler s = .ok a t) :
    (a = .delivered v ∧ t.exc.lastType = .benign)
      ∨ ∃ w ec' s', s'.exc.lastType = s.exc.lastType ∧ handler w ec' s' = .ok a t := by
  have steps := sameClass_deliverySteps.deliver v 3#3 push ec
  cases run : deliver v 3#3 push ec s with
  | ok u s' =>
    rw [run_onRaise_ok run] at e
    cases e
    exact .inl ⟨rfl, rfl⟩
  | error y s' =>
    cases y with
    | raise w ec' =>
      rw [run_onRaise_raise run] at e
      obtain ⟨-, same⟩ := steps.error run
      exact .inr ⟨w, ec', s', same.2, e⟩
    | done b =>
      rw [run_onRaise_done run] at e
      cases e
    | refuse | depth => simp [onRaise, run] at e

/-- An exception that ends normally did not find a double fault unresolved; it came to the double fault where its class is
incompatible, and otherwise to its delivery, with its class unresolved. -/
theorem exception_succ_eq_ok {k : Nat} {a : Answer} (e : exception (k + 1) v ec s = .ok a t) :
    s.exc.lastType ≠ .doubleFault
      ∧ ((nextClass s.exc.lastType (excInfo v).etype = none ∧ ∃ s', exception k 8#8 0#16 s' = .ok a t)
        ∨ ∃ push ec' s', nextClass s.exc.lastType (excInfo v).etype = some s'.exc.lastType
          ∧ onRaise (deliver v 3#3 push ec') (fun _ => resolved v) (exception k) s' = .ok a t) := by
  have ends := exceptionStage_ends v ec s
  unfold exception at e
  rw [run_bind] at e
  cases run : exceptionStage v ec s with
  | error y s' =>
    rw [run] at e
    cases e
  | ok st s' =>
    rw [run] at e ends
    cases st with
    | escalate =>
      obtain ⟨-, notDouble, incompatible⟩ := ends
      exact ⟨notDouble, .inl ⟨incompatible, s', e⟩⟩
    | deliver push ec' =>
      obtain ⟨-, notDouble, class'⟩ := ends
      exact ⟨notDouble, .inr ⟨push, ec', s', class', e⟩⟩

/-- Whatever is raised while a double fault is unresolved, it is not delivered (R274). -/
theorem exception_ne_ok_of_double (double : s.exc.lastType = .doubleFault) (k : Nat) (v : Vector8) (ec : Half)
    (a : Answer) (t : State) : exception k v ec s ≠ .ok a t := by
  intro e
  cases k with
  | zero => cases e
  | succ k => exact (exception_succ_eq_ok e).1 double

/-- A double fault that ends normally is delivered itself, and resolved: a fault of its delivery is a triple fault. -/
theorem doubleFault_delivered {k : Nat} {a : Answer} (e : exception k 8#8 ec s = .ok a t) :
    a = .delivered 8#8 ∧ t.exc.lastType = .benign := by
  cases k with
  | zero => cases e
  | succ k =>
    have class8 : nextClass s.exc.lastType (excInfo 8#8).etype = some .doubleFault := rfl
    obtain ⟨-, ⟨incompatible, -⟩ | ⟨push, ec', s', class', run⟩⟩ := exception_succ_eq_ok e
    · cases class8.symm.trans incompatible
    · have double : s'.exc.lastType = .doubleFault := (Option.some.inj (class8.symm.trans class')).symm
      obtain delivered | ⟨w, ec'', s'', same, again⟩ := onRaise_deliver_eq_ok run
      · exact delivered
      · exact absurd again (exception_ne_ok_of_double (same.trans double) k w ec'' a t)

/-! ### An exception that answers `DELIVERED` (R271, R272) -/

theorem Answer.eq_delivered_of_kind {a : Answer} (h : a.kind = 2#4) : ∃ w, a = .delivered w := by
  cases a with
  | delivered w => exact ⟨w, rfl⟩
  | _ => simp [Answer.kind] at h

/-- Nothing leaves the taking of an exception, or the delivery in it, with the answer `DELIVERED`. -/
theorem notDelivered_exceptionSteps :
    ExceptionSteps (fun _ _ => True) (fun _ _ y => ∀ w, y ≠ .done (.delivered w)) where
  refl _ := trivial
  trans _ _ := trivial
  pre _ h := h
  hist _ _ := trivial
  port _ := trivial
  mem _ _ _ _ := trivial
  cr2 _ _ := trivial
  ctx _ _ _ := trivial
  sched _ := trivial
  exc _ _ _ := trivial
  raise _ _ _ _ := nofun
  abort _ _ := nofun
  taskSw _ _ _ _ _ _ := nofun
  refuse _ _ := nofun
  caught _ _ _ _ _ := trivial
  lastType _ _ := trivial
  commit _ := trivial
  vmexit _ _ := nofun
  tripleReset _ _ := nofun
  shutDown _ _ := nofun
  depth _ := nofun

/-- Where an exception answers `DELIVERED`, it ended normally. -/
theorem exception_ok_of_kind {k : Nat} (e : outcomeOf (exception k v ec s) = .next t) (kind : t.kind = 2#4) :
    ∃ a s', exception k v ec s = .ok a s' ∧ t = s'.respond a := by
  have exits := notDelivered_exceptionSteps.exception k v ec
  cases run : exception k v ec s with
  | ok a s' =>
    rw [run] at e
    cases e
    exact ⟨a, s', rfl, rfl⟩
  | error y s' =>
    rw [run] at e
    cases y with
    | done a =>
      cases e
      rw [State.kind_respond] at kind
      obtain ⟨w, rfl⟩ := Answer.eq_delivered_of_kind kind
      exact absurd rfl (exits.error run w)
    | raise | refuse | depth => cases e

theorem compatOk_classOf_iff (last : ExcClass) (v : Vector8) :
    compatOk last (classOf v) = true ↔ compatiblePair last v := by
  unfold compatiblePair
  cases last with
  | benign | doubleFault => simp [compatOk]
  | contributory | pageFault => cases classOf v <;> simp [compatOk]

theorem classOf_ne_doubleFault (not8 : v ≠ 8#8) : classOf v ≠ .doubleFault := by
  unfold classOf
  rw [if_neg not8]
  split
  · decide
  · split <;> decide

theorem nextClass_of_incompatible {last : ExcClass} (hv : v < 32#8) (not8 : v ≠ 8#8)
    (incompatible : ¬compatiblePair last v) : nextClass last (excInfo v).etype = none := by
  rw [nextClass, excInfo_etype v hv, if_neg (by simpa using classOf_ne_doubleFault not8),
    if_neg (mt (compatOk_classOf_iff last v).mp incompatible)]

/-- Settles O53: an incompatible pair comes to the double fault, and of a double fault nothing is delivered but itself. -/
theorem incompatiblePairIsDoubleFault : Obligations.IncompatiblePairIsDoubleFault := by
  intro v ec addr s t live hv not8 notDouble incompatible e kind
  rw [exec_raise live] at e
  obtain ⟨a, s', run, rfl⟩ := exception_ok_of_kind e kind
  have escalates : nextClass (raiseEntry s v addr).exc.lastType (excInfo v).etype = none := by
    rw [raiseEntry_exc]
    exact nextClass_of_incompatible hv not8 incompatible
  obtain ⟨-, ⟨-, u, double⟩ | ⟨push, ec', u, class', -⟩⟩ := exception_succ_eq_ok run
  · obtain ⟨rfl, resolved⟩ := doubleFault_delivered double
    exact ⟨State.respVector_respond s' _, resolved⟩
  · cases escalates.symm.trans class'

end Sys2Proof.Machine
end

section
/-! SUPPORT. `INT` where its delivery completes (R290 to R303, R332 to R345, R355 to R372): the state it leaves, and the bytes
it stores. -/

namespace Sys2Proof.Machine

variable {s t u : State} {v : Vector8} {type : BitVec 3} {push : Bool} {ec : Half}

/-! ### `INT` up to its delivery (R290) -/

theorem run_askIfException_pass (h : IntEnters s v type push ec) : askIfException v ec push type s = .ok () s := by
  unfold askIfException
  split
  · rename_i asks
    exact run_askExc_pass (h.pass (by simpa using asks))
  · rfl

theorem run_intCommand (h : IntEnters s v type push ec) :
    intCommand v type push ec s
      = (deliver v type (push && decide (s.mode ≠ .real)) (if s.mode = .real then 0#16 else ec) >>= fun _ =>
          pure (.delivered v)) s := by
  have typeOk : (type == 1#3 || type == 7#3) = false := by simpa using h.typeOk
  unfold intCommand
  rw [typeOk]
  refine (run_bind_ok (run_abortIf_false _ s)).trans ((run_bind_ok (run_askIfException_pass h)).trans ?_)
  refine (run_bind_ok (run_get s)).trans ?_
  cases s.mode <;> rfl

/-- Settles O55: past its own tests `INT` is the delivery, which completes as `DeliversTo` describes. -/
theorem intDelivers : Obligations.IntDelivers := fun _ _ _ _ _ _ enters delivers =>
  runCommand_eq_doneIn enters.live ((run_intCommand enters).trans (run_bind_ok (deliver_ok delivers)))

/-! ### What a delivered `INT` stores (R298, R328, R335, R338, R367) -/

/-- The memory after an `INT` whose delivery completes is that of the delivery. -/
theorem mem_of_delivered (h : IntEnters s v type push ec) (ends : exec (.int v type push ec) s = .next t)
    (delivers : DeliversTo s v type (push && decide (s.mode ≠ .real)) (if s.mode = .real then 0#16 else ec) u) :
    t.mem = u.mem := by
  have answer := (intDelivers v type push ec s u h delivers).symm.trans ends
  cases answer
  rfl

theorem mode_ne_real (lma : s.regs.lma = false) (pe : s.regs.pe = true) : s.mode ≠ .real := by
  cases vm : s.ctx.vm
  · rw [mode_of_not_vm lma pe vm]; decide
  · rw [mode_of_vm lma pe vm]; decide

theorem mode_ne_real_of_lma (lma : s.regs.lma = true) : s.mode ≠ .real := by
  cases l : s.ctx.cs.cache.l
  · rw [mode_of_lma_of_not_l lma l]; decide
  · rw [mode_of_lma_of_l lma l]; decide

/-- Outside real mode a delivery takes the error code and the wish to push it as the command gives them (R292). -/
theorem mem_of_delivered_code (h : IntEnters s v type push ec) (ends : exec (.int v type push ec) s = .next t)
    (mode : s.mode ≠ .real) (delivers : DeliversTo s v type push ec u) : t.mem = u.mem := by
  refine mem_of_delivered h ends ?_
  rw [decide_eq_true mode, Bool.and_true, if_neg mode]
  exact delivers

theorem sameFrame_length (c : Context) (push : Bool) (ec : Half) :
    (sameFrame c push ec).length = if push then 4 else 3 := by
  cases push <;> rfl

/-- A byte outside the `count` entries of a frame reads as before it was stored. -/
theorem get_frameMem_outside {addr : Nat → Word} {n count : Nat} {xs : List Word} {m : Memory} (wf : m.wf = true) {a : Nat}
    (length : xs.length = count)
    (outside : ∀ k j, 1 ≤ k → k ≤ count → j < n → a ≠ (addr k + BitVec.ofNat 64 j).toNat) :
    (frameMem addr n xs 1 m).get a = m.get a :=
  get_frameMem_other addr n xs 1 wf a fun k j first last => outside k j first (by omega)

/-- Settles O59: memory after the delivery is memory before it with the frame stored. -/
theorem deliveryStoresOnlyItsFrame : Obligations.DeliveryStoresOnlyItsFrame := by
  intro v type push ec s t enters wf ends a
  refine ⟨fun ready outside => ?_, fun ready outside => ?_, fun big ready outside => ?_, fun ready outside => ?_⟩
  · rw [mem_of_delivered enters ends (.real ready)]
    exact get_frameMem_outside wf rfl outside
  · rw [mem_of_delivered_code enters ends (mode_ne_real ready.lma ready.pe) (.same ready)]
    exact get_frameMem_outside wf (sameFrame_length s.ctx push ec) outside
  · rw [mem_of_delivered_code enters ends (mode_ne_real ready.lma ready.pe) (.inner big ready)]
    exact get_frameMem_outside wf rfl outside
  · rw [mem_of_delivered_code enters ends (mode_ne_real_of_lma ready.lma) (.long ready)]
    exact get_frameMem_outside wf (longEntries_length s.ctx push ec) outside

end Sys2Proof.Machine
end

section
/-! SUPPORT. The tests of a legacy delivery (R296 to R299, R324 to R342), each where it is the first to fail. The routine is
followed through its stages: the gate, the code segment, the TSS, the new stack segment, the frame. Each stage past the first
has a name, and a lemma that says the routine comes to it where the tests before it pass. -/

namespace Sys2Proof.Machine

variable {α : Type} {s t u : State} {v w : Vector8} {type : BitVec 3} {soft push big : Bool} {ec e : Half} {x : Stop}

/-! ### What the accesses of a delivery leave alone

Each stage runs with the context, the memory and the `aborted` of the state that `INT` began in. -/

@[simp] theorem State.accessed_ctx (s : State) (l : List Event) : (s.accessed l).ctx = s.ctx := rfl
@[simp] theorem State.accessed_mem (s : State) (l : List Event) : (s.accessed l).mem = s.mem := rfl
@[simp] theorem State.accessed_aborted (s : State) (l : List Event) : (s.accessed l).aborted = s.aborted := rfl

@[simp] theorem State.framed_aborted (s : State) (addr : Nat → Word) (n : Nat) (acc : Acc) (xs : List Word) (k : Nat) :
    (s.framed addr n acc xs k).aborted = s.aborted := rfl

@[simp] theorem State.pushedOn_aborted (s : State) (n : Nat) (xs : List Word) : (s.pushedOn n xs).aborted = s.aborted :=
  rfl

@[simp] theorem legacyStart_ctx (s : State) : (legacyStart s).ctx = s.ctx := rfl
@[simp] theorem legacyStart_mem (s : State) : (legacyStart s).mem = s.mem := rfl
@[simp] theorem legacyStart_aborted (s : State) : (legacyStart s).aborted = s.aborted := rfl

@[simp] theorem gateRead_ctx (s : State) (v : Vector8) : (gateRead s v).ctx = s.ctx := rfl
@[simp] theorem gateRead_mem (s : State) (v : Vector8) : (gateRead s v).mem = s.mem := rfl
@[simp] theorem gateRead_aborted (s : State) (v : Vector8) : (gateRead s v).aborted = s.aborted := rfl

@[simp] theorem codeRead_ctx (s : State) (v : Vector8) : (codeRead s v).ctx = s.ctx := by simp [codeRead]
@[simp] theorem codeRead_mem (s : State) (v : Vector8) : (codeRead s v).mem = s.mem := by simp [codeRead]
@[simp] theorem codeRead_aborted (s : State) (v : Vector8) : (codeRead s v).aborted = s.aborted := by simp [codeRead]

@[simp] theorem tssRead_ctx (s : State) (v : Vector8) (big : Bool) : (tssRead s v big).ctx = s.ctx := by simp [tssRead]
@[simp] theorem tssRead_mem (s : State) (v : Vector8) (big : Bool) : (tssRead s v big).mem = s.mem := by simp [tssRead]
@[simp] theorem tssRead_aborted (s : State) (v : Vector8) (big : Bool) : (tssRead s v big).aborted = s.aborted := by
  simp [tssRead]

@[simp] theorem ssRead_aborted (s : State) (v : Vector8) (big : Bool) : (ssRead s v big).aborted = s.aborted := by
  simp [ssRead]

theorem portOk_gateRead (h : s.portOk) : (gateRead s v).portOk := State.portOk.accessed (s := legacyStart s) h _

theorem portOk_codeRead (h : s.portOk) : (codeRead s v).portOk := (portOk_gateRead h).accessed _

theorem portOk_tssRead (h : s.portOk) : (tssRead s v big).portOk := (portOk_codeRead h).accessed _

/-! ### A test of a rule (R7) -/

theorem run_test_pass {c : Bool} {f : Unit → M α} (h : c = false) : (raiseIf c v ec >>= f) s = f () s := by
  rw [h]
  exact run_bind_ok rfl

theorem run_test_fails {c : Bool} {f : Unit → M α} (h : c = true) :
    (raiseIf c v ec >>= f) s = .error (.raise v ec) s := by
  rw [h]
  exact run_bind_error rfl

/-! ### `INT` where its legacy delivery stops (R290, R292) -/

theorem run_deliver_legacy_stops (lma : s.regs.lma = false)
    (stops : legacyInt v (isSoft type) push ec (legacyStart s) = .error x t) : deliver v type push ec s = .error x t := by
  have routine : modeInt v (isSoft type) push ec (longStartState s) = .error x t := by
    refine (run_bind_ok (run_get _)).trans ?_
    rw [show (longStartState s).regs.lma = false from lma]
    exact (run_bind_ok (run_modify _ _)).trans (run_bind_error stops)
  refine (run_bind_ok (run_modifySched _ s)).trans ((run_bind_ok (run_modifyExc _ _)).trans ?_)
  exact run_bind_error routine

theorem run_intCommand_real_stops (h : IntEnters s v type push ec) (lma : s.regs.lma = false) (pe : s.regs.pe = false)
    (stops : realModeInt v (legacyStart s) = .error x t) : intCommand v type push ec s = .error x t := by
  refine (run_intCommand h).trans (run_bind_error (run_deliver_legacy_stops lma ?_))
  exact run_legacyInt.trans ((if_neg (Bool.not_eq_true _ ▸ pe)).trans stops)

theorem run_intCommand_prot_stops (h : IntEnters s v type push ec) (lma : s.regs.lma = false) (pe : s.regs.pe = true)
    (stops : protModeInt v (softType type) push ec (legacyStart s) = .error x t) :
    intCommand v type push ec s = .error x t := by
  have mode := mode_ne_real lma pe
  refine (run_intCommand h).trans (run_bind_error (run_deliver_legacy_stops lma ?_))
  rw [decide_eq_true mode, Bool.and_true, if_neg mode]
  exact run_legacyInt.trans ((if_pos pe).trans stops)

/-! ### Frames on the current stack (R295, R296) -/

/-- The entries `xs` of `n` bytes pushed on the current stack. -/
def pushAll (n : Nat) : List Word → M Unit
  | [] => pure ()
  | x :: xs => do
    Machine.push n x
    pushAll n xs

theorem run_push_bad {c : Context} {n k : Nat} (x : Word) (hsp : SpAt c n k s.ctx)
    (bad : stackOk c.ss.cache (slotOff c n (k + 1)) n = false) : Machine.push n x s = .error (.raise 12#8 0#16) s := by
  have ss : s.ctx.ss = c.ss := by rw [hsp]
  refine (run_bind_ok (run_get s)).trans ?_
  simp only [spAt_step hsp]
  exact run_test_fails (by rw [ss, bad]; rfl)

theorem run_pushAll_ok {c : Context} {n : Nat} (xs : List Word) (k : Nat) (s : State) (hsp : SpAt c n k s.ctx)
    (port : s.portOk)
    (fits : ∀ i, k < i → i ≤ k + xs.length → stackOk c.ss.cache (slotOff c n i) n = true) :
    pushAll n xs s = .ok () (s.pushedAll c n xs (k + 1)) := by
  induction xs generalizing k s with
  | nil => rfl
  | cons x xs ih =>
    simp only [List.length_cons] at fits
    refine (run_bind_ok (run_push_ok x hsp port (fits (k + 1) (by omega) (by omega)))).trans ?_
    exact ih (k + 1) _ (spAt_pushed hsp) (portOk_pushed port) fun i first last => fits i (by omega) (by omega)

theorem run_pushAll_bad {c : Context} {n : Nat} (xs : List Word) (j k : Nat) (s : State) (hsp : SpAt c n k s.ctx)
    (port : s.portOk) (inside : j < xs.length)
    (fits : ∀ i, k < i → i ≤ k + j → stackOk c.ss.cache (slotOff c n i) n = true)
    (bad : stackOk c.ss.cache (slotOff c n (k + j + 1)) n = false) :
    pushAll n xs s = .error (.raise 12#8 0#16) (s.pushedAll c n (xs.take j) (k + 1)) := by
  induction xs generalizing j k s with
  | nil => exact absurd inside (by simp)
  | cons x xs ih =>
    cases j with
    | zero => exact run_bind_error (run_push_bad x hsp bad)
    | succ j =>
      refine (run_bind_ok (run_push_ok x hsp port (fits (k + 1) (by omega) (by omega)))).trans ?_
      refine ih j (k + 1) _ (spAt_pushed hsp) (portOk_pushed port) (Nat.lt_of_succ_lt_succ inside)
        (fun i first last => fits i (by omega) (by omega)) ?_
      rwa [show k + 1 + j + 1 = k + (j + 1) + 1 by omega]

theorem pushedAll_eq_pushedOn (s : State) (n : Nat) (xs : List Word) : s.pushedAll s.ctx n xs 1 = s.pushedOn n xs := by
  cases xs with
  | nil =>
    unfold State.pushedOn
    rw [State.framed_nil]
    rfl
  | cons x xs =>
    rw [State.pushedAll_eq s s.ctx n 1 _ (by omega) (by simp), Nat.add_sub_cancel_left]
    rfl

theorem run_pushAll_slotsOk {n : Nat} {xs : List Word} (port : s.portOk) (fits : slotsOk s.ctx n xs.length) :
    pushAll n xs s = .ok () (s.pushedOn n xs) := by
  rw [← pushedAll_eq_pushedOn]
  exact run_pushAll_ok xs 0 s (spAt_zero _ _) port fun i first last => fits i first (by omega)

theorem run_pushAll_firstBad {n j : Nat} {xs : List Word} (port : s.portOk) (h : FirstBadSlot s.ctx n xs.length j) :
    pushAll n xs s = .error (.raise 12#8 0#16) (s.pushedOn n (xs.take j)) := by
  obtain ⟨inside, fits, bad⟩ := h
  rw [← pushedAll_eq_pushedOn]
  exact run_pushAll_bad xs j 0 s (spAt_zero _ _) port inside (fun i first last => fits i first (by omega))
    (by rwa [Nat.zero_add])

/-- What a frame has before its error code does not depend on the code. -/
theorem take_frame (xs : List Word) (push : Bool) (x y : Word) {j : Nat}
    (inside : j < (xs ++ if push then [x] else []).length) :
    (xs ++ if push then [x] else []).take j = (xs ++ if push then [y] else []).take j := by
  have before : j ≤ xs.length := by
    cases push <;> simp at inside <;> omega
  rw [List.take_append_of_le_length before, List.take_append_of_le_length before]

/-! ### Real mode (R296, R297, R299) -/

theorem shl2 (v : Vector8) : v.setWidth 64 <<< 2 = BitVec.ofNat 64 (4 * v.toNat) := by
  apply BitVec.eq_of_toNat_eq
  have := v.isLt
  simp only [BitVec.toNat_shiftLeft, BitVec.toNat_setWidth, BitVec.toNat_ofNat, Nat.shiftLeft_eq]
  omega

/-- The real-mode routine of a delivery from `s`, past the frame. -/
def realHandler (s : State) (v : Vector8) : M Unit := do
  let newIp ← memRead (ivtAddr s v) 2 .sys
  raiseIf (decide (s.ctx.cs.cache.limit.toNat < newIp.toNat)) 13#8 0#16
  let newCs ← memRead (ivtAddr s v + 2#64) 2 .sys
  modifyCtx (realEnter newCs newIp)

theorem run_realModeInt_beyond (beyond : s.ctx.idtr.limit.toNat < 4 * v.toNat + 3) :
    realModeInt v (legacyStart s) = .error (.raise 13#8 0#16) (legacyStart s) :=
  (run_bind_ok (run_get _)).trans (run_test_fails (decide_eq_true beyond))

theorem run_realModeInt_reached (h : RealReached s v) :
    realModeInt v (legacyStart s) = (pushAll 2 (realFrame s.ctx) >>= fun _ => realHandler s v) (legacyStart s) := by
  refine (run_bind_ok (run_get _)).trans ((run_test_pass (decide_lt_false h.idt)).trans ?_)
  simp only [shl2, pushAll, realFrame, bind_assoc, pure_bind]
  rfl

/-- Each fault of a real-mode delivery past the IVT limit is the first test that fails. -/
theorem RealFault.run (h : RealFault s v w e u) : realModeInt v (legacyStart s) = .error (.raise w e) u := by
  cases h with
  | stack j reached bad =>
    exact (run_realModeInt_reached reached).trans
      (run_bind_error (run_pushAll_firstBad (s := legacyStart s) reached.port bad))
  | limit reached fits beyond =>
    refine (run_realModeInt_reached reached).trans ?_
    refine (run_bind_ok (run_pushAll_slotsOk (s := legacyStart s) (xs := realFrame s.ctx) reached.port fits)).trans ?_
    have port : ((legacyStart s).pushedOn 2 (realFrame s.ctx)).portOk := State.portOk_of_drop (n := 3) reached.port rfl
    exact (run_bind_ok (run_memRead_ok port _ _ _)).trans (run_test_fails (decide_eq_true beyond))

/-! ### The gate (R324 to R327) -/

theorem idtCode_eq_gateCode (v : Vector8) : idtCode v = gateCode v := by
  unfold idtCode gateCode
  bv_omega

/-- The routine of a protected-mode delivery of `v` through the gate `g` at level `cpl`. -/
def gateStages (v : Vector8) (soft push : Bool) (ec : Half) (g : Gate) (cpl : BitVec 2) : M Unit := do
  raiseIf (g.s || !isProtGateType g.type) 13#8 (gateCode v)
  raiseIf (soft && decide (g.dpl < cpl)) 13#8 (gateCode v)
  raiseIf (!g.p) 11#8 (gateCode v)
  protDispatch v g push ec

theorem run_protModeInt_beyond (noCet : s.cfg.cetSupported = false) (beyond : s.ctx.idtr.limit.toNat < 8 * v.toNat + 7) :
    protModeInt v soft push ec (legacyStart s) = .error (.raise 13#8 (gateCode v)) (legacyStart s) := by
  refine (run_bind_ok (cetGuard_ok (s := legacyStart s) noCet)).trans ((run_bind_ok (run_get _)).trans ?_)
  rw [idtCode_eq_gateCode]
  exact run_test_fails (decide_eq_true beyond)

theorem run_protModeInt_reached (h : GateReached s v) :
    protModeInt v soft push ec (legacyStart s)
      = gateStages v soft push ec (gateOf s v) s.ctx.cpl (gateRead s v) := by
  refine (run_bind_ok (cetGuard_ok (s := legacyStart s) h.noCet)).trans ((run_bind_ok (run_get _)).trans ?_)
  refine (run_test_pass (decide_lt_false h.idt)).trans ?_
  rw [shl3, idtCode_eq_gateCode]
  exact run_bind_ok (run_memRead_ok (s := legacyStart s) h.port _ _ _)

theorem gateTest_eq_false_iff (g : Gate) : (g.s || !isProtGateType g.type) = false ↔ protGateType g := by
  simp only [protGateType, isProtGateType, Bool.or_eq_false_iff, Bool.not_eq_false', Bool.or_eq_true, beq_iff_eq,
    or_assoc]

theorem run_gateStages_badType {g : Gate} {cpl : BitVec 2} (bad : ¬protGateType g) :
    gateStages v soft push ec g cpl t = .error (.raise 13#8 (gateCode v)) t :=
  run_test_fails (Bool.eq_true_of_not_eq_false (mt (gateTest_eq_false_iff g).mp bad))

theorem run_gateStages_lowDpl {g : Gate} {cpl : BitVec 2} (ok : protGateType g) (software : soft = true)
    (low : g.dpl < cpl) : gateStages v soft push ec g cpl t = .error (.raise 13#8 (gateCode v)) t :=
  (run_test_pass ((gateTest_eq_false_iff g).mpr ok)).trans (run_test_fails (by simp [software, low]))

theorem run_gateStages_absent {g : Gate} {cpl : BitVec 2} (ok : protGateType g) (dpl : soft = true → cpl ≤ g.dpl)
    (absent : g.p = false) : gateStages v soft push ec g cpl t = .error (.raise 11#8 (gateCode v)) t :=
  (run_test_pass ((gateTest_eq_false_iff g).mpr ok)).trans
    ((run_test_pass (soft_lt_false dpl)).trans (run_test_fails (by rw [absent]; rfl)))

/-- Past the tests of an interrupt or trap gate the routine is the transfer through it (R320). -/
theorem run_protModeInt_passed (h : GatePassed s v soft) :
    protModeInt v soft push ec (legacyStart s) = protGate (gateOf s v) push ec (gateRead s v) := by
  have ok : protGateType (gateOf s v) := ⟨h.system, .inr h.type⟩
  have notTask : ((gateOf s v).type == 5#4) = false := by
    rcases h.type with e | e | e | e <;> rw [e] <;> decide
  refine (run_protModeInt_reached h.toGateReached).trans ?_
  refine (run_test_pass ((gateTest_eq_false_iff _).mpr ok)).trans ((run_test_pass (soft_lt_false h.dpl)).trans ?_)
  refine (run_test_pass (by rw [h.present]; rfl)).trans ?_
  rw [protDispatch, notTask]
  rfl

/-! ### The code segment (R323, R329) -/

theorem run_fetchDesc_outside {sel : Half} (outside : ¬descInTable s.ctx sel) :
    fetchDesc sel w s = .error (.raise w (selCode sel)) s := by
  unfold descInTable at outside
  unfold fetchDesc
  by_cases ldt : sel.getLsbD 2 = true
  · rw [if_pos ldt] at outside ⊢
    refine (run_bind_ok (run_get s)).trans ?_
    by_cases valid : s.ctx.ldtr.valid = true
    · refine (run_test_pass (by rw [valid]; rfl)).trans (run_test_fails ?_)
      simpa [valid] using outside
    · exact run_test_fails (by simpa using valid)
  · rw [if_neg ldt] at outside ⊢
    exact (run_bind_ok (run_get s)).trans (run_test_fails (by simpa using outside))

/-- The transfer through the gate `g`, once the descriptor `c` of its code segment is read. -/
def codeStages (g : Gate) (push : Bool) (ec : Half) (c : Desc) : M Unit := do
  let s ← get
  raiseIf (!c.isCode || decide (s.ctx.cpl < c.dpl)) 13#8 (selCode g.selector)
  raiseIf (!c.p) 11#8 (selCode g.selector)
  enterLevel g c push ec
  modifyCtx (gateEnter g)

theorem run_protGate_fetched (h : GatePassed s v soft) (notNull : selCode (gateOf s v).selector ≠ 0#16)
    (inTable : descInTable s.ctx (gateOf s v).selector) :
    protGate (gateOf s v) push ec (gateRead s v) = codeStages (gateOf s v) push ec (codeOf s v) (codeRead s v) := by
  refine (run_test_pass (by simpa using notNull)).trans ?_
  exact run_bind_ok (run_fetchDesc_ok _ (portOk_gateRead h.port) inTable)

/-- Each fault on the target code segment is the first test that fails. -/
theorem CodeFault.run (h : CodeFault s v soft w e u) :
    protModeInt v soft push ec (legacyStart s) = .error (.raise w e) u := by
  cases h with
  | null passed null => exact (run_protModeInt_passed passed).trans (run_test_fails (by simpa using null))
  | table passed notNull outside =>
    refine (run_protModeInt_passed passed).trans ((run_test_pass (by simpa using notNull)).trans ?_)
    exact run_bind_error (run_fetchDesc_outside (s := gateRead s v) outside)
  | code passed notNull inTable bad =>
    refine (run_protModeInt_passed passed).trans ((run_protGate_fetched passed notNull inTable).trans ?_)
    refine (run_bind_ok (run_get _)).trans (run_test_fails ?_)
    rcases bad with bad | bad | bad
    · rw [Desc.isCode, bad]
      rfl
    · rw [Desc.isCode, bad, Bool.and_false]
      rfl
    · exact Bool.or_eq_true _ _ ▸ .inr (decide_eq_true bad)
  | absent passed notNull inTable code codeDpl absent =>
    refine (run_protModeInt_passed passed).trans ((run_protGate_fetched passed notNull inTable).trans ?_)
    refine (run_bind_ok (run_get _)).trans ((run_test_pass ?_).trans (run_test_fails (by rw [absent]; rfl)))
    rw [Desc.isCode, code.1, code.2]
    exact lt_false codeDpl

/-- Past the tests of the code segment the routine stops where the choice of the level does. -/
theorem run_protModeInt_level_stops (h : CodePassed s v soft)
    (stops : enterLevel (gateOf s v) (codeOf s v) push ec (codeRead s v) = .error x u) :
    protModeInt v soft push ec (legacyStart s) = .error x u := by
  have read : codeRead s v = (legacyStart s).accessed (gateReads (legacyStart s) v) :=
    State.accessed_accessed (legacyStart s) _ _
  rw [read] at stops
  rw [run_protModeInt_gate push ec h.toStart]
  simp only [show gateOf (legacyStart s) v = gateOf s v from rfl, show codeOf (legacyStart s) v = codeOf s v from rfl,
    stops]

/-! ### Same-level delivery (R337, R342, R296) -/

theorem run_enterLevel_same {g : Gate} {c : Desc} (level : c.type.getLsbD 2 = true ∨ c.dpl = t.ctx.cpl) :
    enterLevel g c push ec t = sameLevelDelivery g c (decide (14#4 ≤ g.type)) push ec t := by
  refine (run_bind_ok (run_get t)).trans ?_
  simp only [isInner_false level]
  rfl

theorem run_sameLevelDelivery_pushes {g : Gate} {c : Desc} (vm : t.ctx.vm = false)
    (limit : g.offset.toNat ≤ c.limit.toNat) :
    sameLevelDelivery g c (decide (14#4 ≤ g.type)) push ec t
      = (pushAll (entrySize g) (sameFrame t.ctx push ec) >>= fun _ => loadCs g.selector c t.ctx.cpl) t := by
  refine (run_bind_ok (run_get t)).trans ((run_test_pass vm).trans ((run_test_pass (decide_lt_false limit)).trans ?_))
  simp only [entrySize_eq]
  cases push <;>
  · simp only [pushErrorCode, sameFrame, Bool.false_eq_true, if_false, if_true, List.cons_append, List.nil_append, pushAll,
      bind_assoc, pure_bind]

/-- Each fault of a same-level delivery past the code segment is the first test that fails. -/
theorem SameFault.run (h : SameFault s v soft push w e u) :
    protModeInt v soft push ec (legacyStart s) = .error (.raise w e) u := by
  cases h with
  | v86 passed level vm =>
    refine run_protModeInt_level_stops passed ((run_enterLevel_same (t := codeRead s v) level).trans ?_)
    exact (run_bind_ok (run_get _)).trans (run_test_fails vm)
  | limit passed level vm beyond =>
    refine run_protModeInt_level_stops passed ((run_enterLevel_same (t := codeRead s v) level).trans ?_)
    exact (run_bind_ok (run_get _)).trans ((run_test_pass vm).trans (run_test_fails (decide_eq_true beyond)))
  | stack j ready level vm bad =>
    refine run_protModeInt_level_stops ready.toCodePassed ((run_enterLevel_same (t := codeRead s v) level).trans ?_)
    refine (run_sameLevelDelivery_pushes (t := codeRead s v) vm ready.limit).trans ?_
    rw [← sameFrame_length s.ctx push ec] at bad
    refine (run_bind_error (run_pushAll_firstBad (s := codeRead s v) (portOk_codeRead ready.port) bad)).trans ?_
    rw [show (sameFrame s.ctx push ec).take j = (sameFrame s.ctx push 0#16).take j from take_frame _ push _ _ bad.1]

/-! ### The stack of an inner level in the TSS (R333) -/

theorem run_enterLevel_inner {g : Gate} {c : Desc} (conforming : c.type.getLsbD 2 = false) (level : c.dpl < t.ctx.cpl) :
    enterLevel g c push ec t = innerDelivery g c (decide (14#4 ≤ g.type)) push ec t := by
  have inner : isInner c t.ctx.cpl = true := by
    rw [isInner, Desc.conforming, conforming, decide_eq_true level]
    rfl
  refine (run_bind_ok (run_get t)).trans ?_
  simp only [inner]
  rfl

theorem isTss32_eq_true_iff (type : BitVec 4) : isTss32 type = true ↔ type = 9#4 ∨ type = 11#4 := by simp [isTss32]

theorem isTss16_eq_true_iff (type : BitVec 4) : isTss16 type = true ↔ type = 1#4 ∨ type = 3#4 := by simp [isTss16]

theorem run_tssStack_invalid {pl : BitVec 2} (invalid : t.ctx.tr.valid = false) :
    tssStack pl t = .error (.done .abort) (t.abortedBy .trInvalid) := by
  refine (run_bind_ok (run_get t)).trans ?_
  rw [invalid]
  exact run_bind_error (run_abortIf_true _ t)

/-- With a valid TR the stack comes from the TSS of the type that TR has. -/
theorem run_tssStack_valid {pl : BitVec 2} (valid : t.ctx.tr.valid = true) :
    tssStack pl t
      = (if isTss32 t.ctx.tr.cache.type then tssStack32 pl
          else if isTss16 t.ctx.tr.cache.type then tssStack16 pl else abort .trType) t := by
  refine (run_bind_ok (run_get t)).trans ?_
  rw [valid]
  exact run_bind_ok (run_abortIf_false _ t)

theorem run_tssStack_notTss {pl : BitVec 2} (valid : t.ctx.tr.valid = true) (bad : ¬tss32 t ∧ ¬tss16 t) :
    tssStack pl t = .error (.done .abort) (t.abortedBy .trType) := by
  rw [run_tssStack_valid valid, if_neg (mt (isTss32_eq_true_iff _).mp bad.1), if_neg (mt (isTss16_eq_true_iff _).mp bad.2)]
  rfl

theorem run_tssStack_short {pl : BitVec 2} (valid : t.ctx.tr.valid = true) (type : if big then tss32 t else tss16 t)
    (short : t.ctx.tr.cache.limit.toNat < tssOff big pl + (if big then 7 else 3)) :
    tssStack pl t = .error (.raise 10#8 (selCode t.ctx.tr.sel)) t := by
  rw [run_tssStack_valid valid]
  cases big with
  | true =>
    rw [if_pos ((isTss32_eq_true_iff _).mpr type)]
    exact (run_bind_ok (run_get t)).trans (run_test_fails (decide_eq_true short))
  | false =>
    have not32 : ¬isTss32 t.ctx.tr.cache.type = true := by
      rcases type with e | e <;> rw [e] <;> decide
    rw [if_neg not32, if_pos ((isTss16_eq_true_iff _).mpr type)]
    exact (run_bind_ok (run_get t)).trans (run_test_fails (decide_eq_true short))

/-! ### The new stack segment (R332, R334) -/

/-- An inner delivery on the new stack `stack`, once its segment, with the descriptor `d`, passed the tests of its levels and
its type; `c'` is the context the frame is taken from. -/
def ssPresentStages (g : Gate) (c : Desc) (big push : Bool) (ec : Half) (c' : Context) (stack : Half × Word) (d : Desc) :
    M Unit := do
  raiseIf (!d.p) 12#8 (selCode stack.1)
  raiseIf (decide (c.limit.toNat < g.offset.toNat)) 13#8 0#16
  let t ← pushInner d (selCode stack.1) (if big then 4 else 2) c.dpl (innerFrame c' push ec) (wrapSp d.db stack.2)
  loadCs g.selector c c.dpl
  modifyCtx (innerEnter stack.1 d c.dpl t)

/-- An inner delivery on the new stack `stack`, once the descriptor `d` of its segment is read. -/
def ssStages (g : Gate) (c : Desc) (big push : Bool) (ec : Half) (c' : Context) (stack : Half × Word) (d : Desc) :
    M Unit := do
  raiseIf (stack.1.extractLsb' 0 2 != c.dpl) 10#8 (selCode stack.1)
  raiseIf (d.dpl != c.dpl) 10#8 (selCode stack.1)
  raiseIf (!d.writableData) 10#8 (selCode stack.1)
  ssPresentStages g c big push ec c' stack d

/-- An inner delivery from the context `c'`, once the new stack `stack` is read from the TSS. -/
def newStackStages (g : Gate) (c : Desc) (big push : Bool) (ec : Half) (c' : Context) (stack : Half × Word) : M Unit := do
  raiseIf (c'.vm && c.dpl != 0#2) 13#8 (selCode g.selector)
  raiseIf (selCode stack.1 == 0#16) 10#8 0#16
  let d ← fetchDesc stack.1 10#8
  ssStages g c big push ec c' stack (parseDesc d)

theorem innerDelivery_eq (g : Gate) (c : Desc) (big push : Bool) (ec : Half) :
    innerDelivery g c big push ec = (do
      let stack ← tssStack c.dpl
      let s ← get
      newStackStages g c big push ec s.ctx stack) := rfl

theorem writableData_eq_true_iff (d : Desc) :
    d.writableData = true ↔ d.s = true ∧ d.type.getLsbD 3 = false ∧ d.type.getLsbD 1 = true := by
  simp [Desc.writableData, and_assoc]

theorem run_ssStages_bad {g : Gate} {c d : Desc} {c' : Context} {stack : Half × Word}
    (bad : stack.1.extractLsb' 0 2 ≠ c.dpl ∨ d.dpl ≠ c.dpl ∨ d.s = false ∨ d.type.getLsbD 3 = true
      ∨ d.type.getLsbD 1 = false) :
    ssStages g c big push ec c' stack d t = .error (.raise 10#8 (selCode stack.1)) t := by
  by_cases rpl : stack.1.extractLsb' 0 2 = c.dpl
  · refine (run_test_pass (by simpa using rpl)).trans ?_
    by_cases dpl : d.dpl = c.dpl
    · refine (run_test_pass (by simpa using dpl)).trans (run_test_fails ?_)
      have notData : ¬d.writableData = true := by
        rw [writableData_eq_true_iff]
        rintro ⟨segment, data, writable⟩
        rw [segment, data, writable] at bad
        simp [rpl, dpl] at bad
      simpa using notData
    · exact run_test_fails (by simpa using dpl)
  · exact run_test_fails (by simpa using rpl)

theorem run_ssStages_data {g : Gate} {c d : Desc} {c' : Context} {stack : Half × Word}
    (rpl : stack.1.extractLsb' 0 2 = c.dpl) (dpl : d.dpl = c.dpl)
    (data : d.s = true ∧ d.type.getLsbD 3 = false ∧ d.type.getLsbD 1 = true) :
    ssStages g c big push ec c' stack d t = ssPresentStages g c big push ec c' stack d t := by
  refine (run_test_pass (by simpa using rpl)).trans ((run_test_pass (by simpa using dpl)).trans (run_test_pass ?_))
  rw [(writableData_eq_true_iff d).mpr data]
  rfl

/-! ### A frame on a new stack (R296, R332) -/

theorem run_pushInner_bad {d : Desc} {n : Nat} {pl : BitVec 2} (sp : Word) (xs : List Word) (j k : Nat) (s : State)
    (port : s.portOk) (inside : j < xs.length)
    (fits : ∀ i, k < i → i ≤ k + j → stackOk d (wrapSp d.db (sp - BitVec.ofNat 64 (n * i))) n = true)
    (bad : stackOk d (wrapSp d.db (sp - BitVec.ofNat 64 (n * (k + j + 1)))) n = false) :
    pushInner d e n pl xs (wrapSp d.db (sp - BitVec.ofNat 64 (n * k))) s
      = .error (.raise 12#8 e)
          (s.framed (fun i => legacyAddr d.base (wrapSp d.db (sp - BitVec.ofNat 64 (n * i)))) n (.stack pl) (xs.take j)
            (k + 1)) := by
  induction xs generalizing j k s with
  | nil => exact absurd inside (by simp)
  | cons x xs ih =>
    unfold pushInner
    simp only [wrapSp_step]
    cases j with
    | zero =>
      rw [List.take_zero, State.framed_nil]
      exact run_test_fails (by rw [bad]; rfl)
    | succ j =>
      refine (run_bind_ok (checkStack_ok (fits (k + 1) (by omega) (by omega)))).trans ?_
      refine (run_bind_ok (run_memWrite_ok port _ _ _ _)).trans ?_
      rw [List.take_succ_cons, State.framed_cons]
      refine ih j (k + 1) _ (State.portOk_of_drop (n := 1) port rfl) (Nat.lt_of_succ_lt_succ inside)
        (fun i first last => fits i (by omega) (by omega)) ?_
      rwa [show k + 1 + j + 1 = k + (j + 1) + 1 by omega]

/-! ### Inner delivery (R332 to R334, R342, R296) -/

/-- Past the code segment the routine stops where the inner delivery does. -/
theorem run_protModeInt_inner_stops (h : InnerLevel s v soft)
    (stops : innerDelivery (gateOf s v) (codeOf s v) (decide (14#4 ≤ (gateOf s v).type)) push ec (codeRead s v)
      = .error x u) :
    protModeInt v soft push ec (legacyStart s) = .error x u :=
  run_protModeInt_level_stops h.toCodePassed
    ((run_enterLevel_inner (t := codeRead s v) h.conforming h.level).trans stops)

/-- The new stack of an inner delivery: its selector and its pointer (R333). -/
def newStack (s : State) (v : Vector8) (big : Bool) : Half × Word :=
  (newSs s big (codeOf s v).dpl, newSp s big (codeOf s v).dpl)

/-- Once the new stack is read, the routine stops where the rest of the inner delivery does. -/
theorem run_protModeInt_newStack_stops (h : TssPassed s v soft big)
    (stops : newStackStages (gateOf s v) (codeOf s v) (decide (14#4 ≤ (gateOf s v).type)) push ec s.ctx
      (newStack s v big) (tssRead s v big) = .error x u) :
    protModeInt v soft push ec (legacyStart s) = .error x u := by
  refine run_protModeInt_inner_stops h.toInnerLevel ?_
  rw [innerDelivery_eq]
  refine (run_bind_ok (run_tssStack_ok (s := codeRead s v) (portOk_codeRead h.port) h.trValid h.trType h.trLimit)).trans ?_
  refine (run_bind_ok (run_get (tssRead s v big))).trans ?_
  rw [tssRead_ctx]
  exact stops

theorem v86Test_passes {vm : Bool} {pl : BitVec 2} (h : vm = true → pl = 0#2) : (vm && pl != 0#2) = false := by
  cases vm with
  | false => rfl
  | true => rw [h rfl]; rfl

/-- Once the new stack segment is read too, the routine stops where the rest does. -/
theorem run_protModeInt_ss_stops (h : TssPassed s v soft big) (v86 : s.ctx.vm = true → (codeOf s v).dpl = 0#2)
    (notNull : selCode (newSs s big (codeOf s v).dpl) ≠ 0#16)
    (inTable : descInTable s.ctx (newSs s big (codeOf s v).dpl))
    (stops : ssStages (gateOf s v) (codeOf s v) (decide (14#4 ≤ (gateOf s v).type)) push ec s.ctx (newStack s v big)
      (descOf s (newSs s big (codeOf s v).dpl)) (ssRead s v big) = .error x u) :
    protModeInt v soft push ec (legacyStart s) = .error x u := by
  have read := run_fetchDesc_ok (s := tssRead s v big) 10#8 (portOk_tssRead h.port) (by rwa [tssRead_ctx])
  rw [tssRead_ctx, tssRead_mem] at read
  refine run_protModeInt_newStack_stops h ((run_test_pass (v86Test_passes v86)).trans ?_)
  exact (run_test_pass (beq_eq_false_iff_ne.mpr notNull)).trans ((run_bind_ok read).trans stops)

theorem run_protModeInt_ssPresent_stops (h : NewStackPassed s v soft big)
    (stops : ssPresentStages (gateOf s v) (codeOf s v) (decide (14#4 ≤ (gateOf s v).type)) push ec s.ctx
      (newStack s v big) (descOf s (newSs s big (codeOf s v).dpl)) (ssRead s v big) = .error x u) :
    protModeInt v soft push ec (legacyStart s) = .error x u :=
  run_protModeInt_ss_stops h.toTssPassed h.v86 h.ssNotNull h.ssInTable
    ((run_ssStages_data h.ssRpl h.ssDpl h.ssData).trans stops)

/-- The frame of an inner delivery stops at the first entry that does not fit on the new stack. -/
theorem run_innerFrame_firstBad {j : Nat} (port : s.portOk) (bad : FirstBadInnerSlot s v push big j) :
    pushInner (descOf s (newSs s big (codeOf s v).dpl)) (selCode (newSs s big (codeOf s v).dpl)) (entrySize (gateOf s v))
        (codeOf s v).dpl (innerEntries s.ctx push ec)
        (wrapSp (descOf s (newSs s big (codeOf s v).dpl)).db (newSp s big (codeOf s v).dpl)) (ssRead s v big)
      = .error (.raise 12#8 (selCode (newSs s big (codeOf s v).dpl)))
          ((ssRead s v big).framed (innerAddr s big (codeOf s v).dpl (entrySize (gateOf s v))) (entrySize (gateOf s v))
            (.stack (codeOf s v).dpl) ((innerEntries s.ctx push 0#16).take j) 1) := by
  obtain ⟨inside, fits, bad⟩ := bad
  have run := run_pushInner_bad (d := descOf s (newSs s big (codeOf s v).dpl))
    (e := selCode (newSs s big (codeOf s v).dpl)) (pl := (codeOf s v).dpl) (newSp s big (codeOf s v).dpl)
    (innerEntries s.ctx push ec) j 0 (ssRead s v big) ((portOk_tssRead port).accessed _)
    (by rwa [innerEntries_length s.ctx push ec 0#16]) (fun i first last => fits i first (by omega))
    (by rw [Nat.zero_add]; exact bad)
  rw [Nat.mul_zero, BitVec.sub_zero] at run
  rw [show (innerEntries s.ctx push 0#16).take j = (innerEntries s.ctx push ec).take j from
    take_frame _ push _ _ inside]
  exact run

/-- Each fault of an inner delivery past the code segment is the first test that fails. -/
theorem InnerFault.run (h : InnerFault s v soft push big w e u) :
    protModeInt v soft push ec (legacyStart s) = .error (.raise w e) u := by
  cases h with
  | tss level valid type short =>
    refine run_protModeInt_inner_stops level ?_
    rw [innerDelivery_eq]
    exact run_bind_error (run_tssStack_short (t := codeRead s v) valid type short)
  | v86 passed vm dpl =>
    exact run_protModeInt_newStack_stops passed (run_test_fails (by rw [vm, Bool.true_and, bne_iff_ne]; exact dpl))
  | null passed v86 null =>
    refine run_protModeInt_newStack_stops passed ((run_test_pass (v86Test_passes v86)).trans ?_)
    exact run_test_fails (beq_iff_eq.mpr null)
  | table passed v86 notNull outside =>
    refine run_protModeInt_newStack_stops passed ((run_test_pass (v86Test_passes v86)).trans ?_)
    refine (run_test_pass (beq_eq_false_iff_ne.mpr notNull)).trans (run_bind_error ?_)
    exact run_fetchDesc_outside (by rwa [tssRead_ctx])
  | segment passed v86 notNull inTable bad =>
    exact run_protModeInt_ss_stops passed v86 notNull inTable (run_ssStages_bad bad)
  | absent passed v86 notNull inTable rpl dpl data absent =>
    refine run_protModeInt_ss_stops passed v86 notNull inTable ((run_ssStages_data rpl dpl data).trans ?_)
    exact run_test_fails (by rw [absent]; rfl)
  | limit passed beyond =>
    refine run_protModeInt_ssPresent_stops passed ((run_test_pass (by rw [passed.ssPresent]; rfl)).trans ?_)
    exact run_test_fails (decide_eq_true beyond)
  | stack j passed limit bad =>
    refine run_protModeInt_ssPresent_stops passed ((run_test_pass (by rw [passed.ssPresent]; rfl)).trans ?_)
    refine (run_test_pass (decide_lt_false limit)).trans ?_
    rw [entrySize_eq]
    exact run_bind_error (run_innerFrame_firstBad passed.port bad)

/-- Without a TSS in TR the routine ends with an internal error (R333). -/
theorem InnerAbort.run {r : AbortReason} (h : InnerAbort s v soft r) :
    protModeInt v soft push ec (legacyStart s) = .error (.done .abort) ((codeRead s v).abortedBy r) := by
  cases h with
  | trInvalid level invalid =>
    refine run_protModeInt_inner_stops level ?_
    rw [innerDelivery_eq]
    exact run_bind_error (run_tssStack_invalid (t := codeRead s v) invalid)
  | trType level valid bad =>
    refine run_protModeInt_inner_stops level ?_
    rw [innerDelivery_eq]
    exact run_bind_error (run_tssStack_notTss (t := codeRead s v) valid bad)

/-! ### `INT` where a test of its legacy delivery fails -/

theorem exec_int_real_raises (h : IntEnters s v type push ec) (lma : s.regs.lma = false) (pe : s.regs.pe = false)
    (notPf : w ≠ 14#8) (live : u.aborted = s.aborted)
    (raises : realModeInt v (legacyStart s) = .error (.raise w e) u) : exec (.int v type push ec) s = raisedIn w e u :=
  runCommand_eq_raisedIn h.live (live.trans h.live) notPf (run_intCommand_real_stops h lma pe raises)

theorem exec_int_prot_raises (h : IntEnters s v type push ec) (lma : s.regs.lma = false) (pe : s.regs.pe = true)
    (notPf : w ≠ 14#8) (live : u.aborted = s.aborted)
    (raises : protModeInt v (softType type) push ec (legacyStart s) = .error (.raise w e) u) :
    exec (.int v type push ec) s = raisedIn w e u :=
  runCommand_eq_raisedIn h.live (live.trans h.live) notPf (run_intCommand_prot_stops h lma pe raises)

theorem RealFault.exec_int (h : IntEnters s v type push ec) (fault : RealFault s v w e u) :
    exec (.int v type push ec) s = raisedIn w e u := by
  have run := fault.run
  cases fault with
  | stack _ reached | limit reached =>
    exact exec_int_real_raises h reached.lma reached.pe (by decide) (by simp) run

theorem CodeFault.exec_int (h : IntEnters s v type push ec) (fault : CodeFault s v (softType type) w e u) :
    exec (.int v type push ec) s = raisedIn w e u := by
  have run := fault.run (push := push) (ec := ec)
  cases fault with
  | null passed | table passed | code passed | absent passed =>
    exact exec_int_prot_raises h passed.lma passed.pe (by decide) (by simp) run

theorem SameFault.exec_int (h : IntEnters s v type push ec) (fault : SameFault s v (softType type) push w e u) :
    exec (.int v type push ec) s = raisedIn w e u := by
  have run := fault.run (ec := ec)
  cases fault with
  | v86 passed | limit passed | stack _ passed =>
    exact exec_int_prot_raises h passed.lma passed.pe (by decide) (by simp) run

theorem InnerFault.exec_int (h : IntEnters s v type push ec) (fault : InnerFault s v (softType type) push big w e u) :
    exec (.int v type push ec) s = raisedIn w e u := by
  have run := fault.run (ec := ec)
  cases fault with
  | tss passed | v86 passed | null passed | table passed | segment passed | absent passed | limit passed
  | stack _ passed =>
    exact exec_int_prot_raises h passed.lma passed.pe (by decide) (by simp) run

theorem InnerAbort.exec_int {r : AbortReason} (h : IntEnters s v type push ec) (bad : InnerAbort s v (softType type) r) :
    exec (.int v type push ec) s = doneIn .abort ((codeRead s v).abortedBy r) := by
  have run := bad.run (push := push) (ec := ec)
  cases bad with
  | trInvalid level | trType level =>
    exact runCommand_eq_doneIn_of_done h.live (run_intCommand_prot_stops h level.lma level.pe run)

/-- Settles O56: each clause names the first test of the routine that fails, and the state the stages before it leave. -/
theorem gateTests : Obligations.GateTests := by
  intro v type push ec s enters
  have raises (reached : GateReached s v) {w : Vector8} (notPf : w ≠ 14#8)
      (stops : gateStages v (softType type) push ec (gateOf s v) s.ctx.cpl (gateRead s v)
        = .error (.raise w (gateCode v)) (gateRead s v)) :
      exec (.int v type push ec) s = raisedIn w (gateCode v) (gateRead s v) :=
    exec_int_prot_raises enters reached.lma reached.pe notPf rfl ((run_protModeInt_reached reached).trans stops)
  refine ⟨fun lma pe beyond => ?_, fun lma pe noCet beyond => ?_, fun reached => ⟨fun bad => ?_, fun ok software low => ?_,
    fun ok dpl absent => ?_⟩, ?_, fun r bad => bad.exec_int enters⟩
  · exact exec_int_real_raises enters lma pe (by decide) rfl (run_realModeInt_beyond beyond)
  · exact exec_int_prot_raises enters lma pe (by decide) rfl (run_protModeInt_beyond noCet beyond)
  · exact raises reached (by decide) (run_gateStages_badType bad)
  · exact raises reached (by decide) (run_gateStages_lowDpl ok software low)
  · exact raises reached (by decide) (run_gateStages_absent ok dpl absent)
  · rintro w e u (fault | fault | fault | ⟨big, fault⟩) <;> exact fault.exec_int enters

end Sys2Proof.Machine
end

section
/-! SUPPORT. The hand-over of a task gate (R330): the tests on its TSS descriptor, in their order, and the answer `TASKSW` that
ends the command where they pass. -/

namespace Sys2Proof.Machine

variable {s u : State} {v w : Vector8} {type : BitVec 3} {soft push : Bool} {ec e : Half}

/-! ### The task gate (R325 to R327, R330) -/

/-- Past the tests of a task gate the routine is the hand-over (R320). -/
theorem run_protModeInt_task (h : TaskGatePassed s v soft) :
    protModeInt v soft push ec (legacyStart s) = taskGate v (gateOf s v).selector push ec (gateRead s v) := by
  obtain ⟨system, task⟩ := h.gate
  have ok : protGateType (gateOf s v) := ⟨system, .inl task⟩
  refine (run_protModeInt_reached h.toGateReached).trans ?_
  refine (run_test_pass ((gateTest_eq_false_iff _).mpr ok)).trans ((run_test_pass (soft_lt_false h.dpl)).trans ?_)
  refine (run_test_pass (by rw [h.present]; rfl)).trans ?_
  rw [protDispatch, task]
  rfl

/-- The hand-over through the TSS selector `t`, once the descriptor `d` that it names is read (R330). -/
def tssStages (v : Vector8) (t : Half) (push : Bool) (ec : Half) (d : Desc) : M Unit := do
  raiseIf (d.s || !(d.type == 1#4 || d.type == 9#4)) 13#8 (selCode t)
  raiseIf (!d.p) 11#8 (selCode t)
  emit (.taskSwitch t d push ec)
  finish (.taskSw v t)

/-- Past the test of the table indicator the routine goes on with the read of the TSS descriptor. -/
theorem run_protModeInt_taskGdt (h : TaskGatePassed s v soft) (gdt : (gateOf s v).selector.getLsbD 2 = false) :
    protModeInt v soft push ec (legacyStart s)
      = (fetchDesc (gateOf s v).selector 13#8 >>= fun d =>
          tssStages v (gateOf s v).selector push ec (parseDesc d)) (gateRead s v) :=
  (run_protModeInt_task h).trans (run_test_pass gdt)

theorem run_protModeInt_tssFetched (h : TaskGatePassed s v soft) (gdt : (gateOf s v).selector.getLsbD 2 = false)
    (inTable : descInTable s.ctx (gateOf s v).selector) :
    protModeInt v soft push ec (legacyStart s)
      = tssStages v (gateOf s v).selector push ec (codeOf s v) (codeRead s v) :=
  (run_protModeInt_taskGdt h gdt).trans (run_bind_ok (run_fetchDesc_ok _ (portOk_gateRead h.port) inTable))

/-! ### The TSS descriptor (R330) -/

theorem tssTest_eq_false_iff (d : Desc) :
    (d.s || !(d.type == 1#4 || d.type == 9#4)) = false ↔ d.s = false ∧ (d.type = 1#4 ∨ d.type = 9#4) := by
  simp only [Bool.or_eq_false_iff, Bool.not_eq_false', Bool.or_eq_true, beq_iff_eq]

theorem tssTest_eq_true_iff (d : Desc) :
    (d.s || !(d.type == 1#4 || d.type == 9#4)) = true ↔ d.s = true ∨ (d.type ≠ 1#4 ∧ d.type ≠ 9#4) := by
  simp only [Bool.or_eq_true, Bool.not_eq_true', Bool.or_eq_false_iff, beq_eq_false_iff_ne]

/-- Each fault on the TSS descriptor is the first test that fails. -/
theorem TaskGateFault.run (h : TaskGateFault s v soft w e u) :
    protModeInt v soft push ec (legacyStart s) = .error (.raise w e) u := by
  cases h with
  | ldt passed ldt => exact (run_protModeInt_task passed).trans (run_test_fails ldt)
  | table passed gdt outside =>
    exact (run_protModeInt_taskGdt passed gdt).trans
      (run_bind_error (run_fetchDesc_outside (s := gateRead s v) outside))
  | tss passed gdt inTable bad =>
    exact (run_protModeInt_tssFetched passed gdt inTable).trans (run_test_fails ((tssTest_eq_true_iff _).mpr bad))
  | absent passed gdt inTable tss absent =>
    refine (run_protModeInt_tssFetched passed gdt inTable).trans ?_
    exact (run_test_pass ((tssTest_eq_false_iff _).mpr tss)).trans (run_test_fails (by rw [absent]; rfl))

/-- A task gate whose TSS is available and present ends the command with the hand-over. -/
theorem TaskGateReady.run (h : TaskGateReady s v soft) :
    protModeInt v soft push ec (legacyStart s)
      = .error (.done (.taskSw v (gateOf s v).selector))
          ((codeRead s v).logged [.taskSwitch (gateOf s v).selector (codeOf s v) push ec]) := by
  refine (run_protModeInt_tssFetched h.toTaskGatePassed h.gdt h.inTable).trans ?_
  refine (run_test_pass ((tssTest_eq_false_iff _).mpr h.tss)).trans ?_
  exact (run_test_pass (by rw [h.tssPresent]; rfl)).trans ((run_bind_ok (run_emit _ _)).trans (run_finish _ _))

/-! ### `INT` through a task gate -/

theorem TaskGateReady.exec_int (h : IntEnters s v type push ec) (ready : TaskGateReady s v (softType type)) :
    exec (.int v type push ec) s = doneIn (.taskSw v (gateOf s v).selector)
      ((codeRead s v).logged [.taskSwitch (gateOf s v).selector (codeOf s v) push ec]) :=
  runCommand_eq_doneIn_of_done h.live (run_intCommand_prot_stops h ready.lma ready.pe ready.run)

theorem TaskGateFault.exec_int (h : IntEnters s v type push ec) (fault : TaskGateFault s v (softType type) w e u) :
    exec (.int v type push ec) s = raisedIn w e u := by
  have run := fault.run (push := push) (ec := ec)
  cases fault with
  | ldt passed | table passed | tss passed | absent passed =>
    exact exec_int_prot_raises h passed.lma passed.pe (by decide) (by simp) run

/-- Settles O58: the protected-mode routine ends in the hand-over, in the middle of the delivery (log entry 14), or at the
first test on the TSS descriptor that fails. -/
theorem taskGateHandsOver : Obligations.TaskGateHandsOver := fun _ _ _ _ _ enters =>
  ⟨fun ready => ready.exec_int enters, fun _ _ _ fault => fault.exec_int enters⟩

end Sys2Proof.Machine
end

section
/-! SUPPORT. The table of R411, element by element, against the state right after power-on. -/

namespace Sys2Proof.Machine

/-- The five data segment registers have the one record that R411 gives for them. -/
theorem reset_dataSegs {r : SegReg}
    (h : r ∈ [Context.reset.ss, Context.reset.ds, Context.reset.es, Context.reset.fs, Context.reset.gs]) :
    r = SegReg.resetData := by
  simpa [Context.reset] using h

theorem reset_mode : State.reset.mode = .real := mode_of_not_pe rfl rfl

/-- Settles O7: each element is the one the reset state is built with, and CR0.PE = LMA = 0 is real mode. -/
theorem resetValues : Obligations.ResetValues := by
  refine ⟨rfl, ⟨rfl, rfl, rfl, fun r hr => ?_, rfl, rfl, rfl, rfl⟩, rfl, rfl, rfl, rfl, rfl, rfl, reset_mode⟩
  rw [reset_dataSegs hr]
  exact ⟨rfl, rfl⟩

end Sys2Proof.Machine
end

section
/-! SUPPORT. Between commands no delivery is in progress (R405, R56 to R58). A delivery is the one thing that sets `in_event`,
and an exception the one thing that leaves an unresolved class; where either ends the command, with a vector or with an exit
of its own, the three are back at rest (`deliver_settles`, `idle_of_exception_next`). Every other step of a rule leaves them
as they were (`KeepsIdle`), except that an interrupt sets EXT for the delivery it goes on to. -/

namespace Sys2Proof.Machine

variable {α β : Type} {s t : State}

/-! ### The answers that may leave a delivery in progress (R330, R404) -/

/-- `TASKSW` leaves the delivery to the task-switch unit, and `ABORT` leaves it where it stood. -/
def Answer.Unfinished (a : Answer) : Prop := a.kind = 9#4 ∨ a.kind = 15#4

theorem Answer.unfinished_abort : Answer.abort.Unfinished := .inr rfl

theorem Answer.unfinished_taskSw (v : Vector8) (sel : Half) : (Answer.taskSw v sel).Unfinished := .inl rfl

/-! ### A delivery (R292) -/

/-- The delivery is over: `in_event` and EXT are 0, and the class of the exception in progress is the same. -/
def settled (s s' : State) : Prop :=
  s'.exc.inEvent = false ∧ s'.exc.extBit = false ∧ s'.exc.lastType = s.exc.lastType

/-- The command is left by an exception, by a stop of the model or by an unfinished answer. -/
def leavesUnfinished (_ _ : State) (x : Stop) : Prop := ∀ a, x = .done a → a.Unfinished

theorem leavesUnfinished_deliverySteps : DeliverySteps (fun _ _ => True) leavesUnfinished where
  refl _ := trivial
  trans _ _ := trivial
  pre _ h := h
  hist _ _ := trivial
  port _ := trivial
  mem _ _ _ _ := trivial
  cr2 _ _ := trivial
  ctx _ _ _ := trivial
  sched _ := trivial
  exc _ _ _ := trivial
  raise _ _ _ _ := nofun
  abort _ _ := by
    rintro _ ⟨⟩
    exact Answer.unfinished_abort
  taskSw _ v t _ _ _ := by
    rintro _ ⟨⟩
    exact Answer.unfinished_taskSw v t
  refuse _ _ := nofun

/-- The last two lines of a delivery leave `in_event` and EXT at 0. -/
theorem run_deliver_eq_ok {v : Vector8} {type : BitVec 3} {push : Bool} {ec : Half} {u : Unit}
    (e : deliver v type push ec s = .ok u t) : ∃ s' : State, t = s'.deliveryEnd v type := by
  have start : deliver v type push ec s
      = (modeInt v (isSoft type) push ec >>= fun _ =>
          modify (fun s => s.setExc { s.exc with inEvent := false, extBit := false, prevRip := s.ctx.rip }) >>= fun _ =>
          emit (.delivered v type)) (longStartState s) := rfl
  rw [start, run_bind] at e
  cases run : modeInt v (isSoft type) push ec (longStartState s) with
  | ok _ s' =>
    rw [run] at e
    cases e
    exact ⟨s', rfl⟩
  | error x s' =>
    rw [run] at e
    cases e

/-- How a delivery ends, from any state. -/
theorem deliver_settles (v : Vector8) (type : BitVec 3) (push : Bool) (ec : Half) :
    Spec settled leavesUnfinished (deliver v type push ec) := by
  intro s
  cases run : deliver v type push ec s with
  | ok u t =>
    have same : t.exc.lastType = s.exc.lastType := ((sameClass_deliverySteps.deliver v type push ec).ok run).2
    obtain ⟨s', rfl⟩ := run_deliver_eq_ok run
    exact ⟨rfl, rfl, same⟩
  | error x t => exact (leavesUnfinished_deliverySteps.deliver v type push ec).error run

/-- With no exception unresolved before, no delivery is in progress after. -/
def restoresIdle (s s' : State) : Prop := s.exc.lastType = .benign → s'.exc.Idle

theorem settled.restoresIdle (h : settled s t) : restoresIdle s t := by
  obtain ⟨inEvent, ext, same⟩ := h
  exact fun benign => ⟨inEvent, ext, same.trans benign⟩

theorem deliver_restores (v : Vector8) (type : BitVec 3) (push : Bool) (ec : Half) :
    Spec restoresIdle leavesUnfinished (deliver v type push ec) := by
  intro s
  cases run : deliver v type push ec s with
  | ok u t => exact settled.restoresIdle ((deliver_settles v type push ec).ok run)
  | error x t => exact (deliver_settles v type push ec).error run

/-- An asynchronous delivery writes `prev_rip` once more at its end (R241, R243). -/
theorem deliverAsync_restores (v : Vector8) (type : BitVec 3) :
    Spec restoresIdle leavesUnfinished (deliverAsync v type) := by
  intro s
  unfold deliverAsync
  rw [run_bind]
  cases run : deliver v type false 0#16 s with
  | ok u t =>
    have atRest : restoresIdle s t := (deliver_restores v type false 0#16).ok run
    exact atRest
  | error x t => exact (deliver_restores v type false 0#16).error run

/-- EXT is set for the delivery that follows, which clears it (R241, R243, R293). -/
theorem setExt_deliverAsync_restores (v : Vector8) (type : BitVec 3) :
    Spec restoresIdle leavesUnfinished (setExt >>= fun _ => deliverAsync v type) :=
  fun s => deliverAsync_restores v type (s.setExc { s.exc with extBit := true })

/-! ### An exception (R262, R273, R274) -/

/-- Unless its answer is unfinished, the command is left with no delivery in progress. -/
def leavesIdle (_ s' : State) (x : Stop) : Prop := ∀ a, x = .done a → ¬a.Unfinished → s'.exc.Idle

theorem leavesIdle_of_idle (h : t.exc.Idle) (x : Stop) : leavesIdle s t x := fun _ _ _ => h

theorem leavesIdle_of_unfinished {a : Answer} (h : a.Unfinished) : leavesIdle s t (.done a) := by
  rintro _ ⟨⟩ finished
  exact absurd h finished

theorem leavesIdle_exceptionSteps : ExceptionSteps (fun _ _ => True) leavesIdle where
  refl _ := trivial
  trans _ _ := trivial
  pre _ h := h
  hist _ _ := trivial
  port _ := trivial
  mem _ _ _ _ := trivial
  cr2 _ _ := trivial
  ctx _ _ _ := trivial
  sched _ := trivial
  exc _ _ _ := trivial
  raise _ _ _ _ := nofun
  abort _ _ := leavesIdle_of_unfinished Answer.unfinished_abort
  taskSw _ v t _ _ _ := leavesIdle_of_unfinished (Answer.unfinished_taskSw v t)
  refuse _ _ := nofun
  caught _ _ _ _ _ := trivial
  lastType _ _ := trivial
  commit _ := trivial
  vmexit _ _ := leavesIdle_of_idle ⟨rfl, rfl, rfl⟩ _
  tripleReset _ _ := leavesIdle_of_idle ⟨rfl, rfl, rfl⟩ _
  shutDown _ := fun _ => leavesIdle_of_idle ⟨rfl, rfl, rfl⟩ _
  depth _ := nofun

/-- Whatever state an exception is taken in, one that is delivered is resolved, and its delivery over. -/
theorem idle_of_exception_ok {k : Nat} {v : Vector8} {ec : Half} {a : Answer} (e : exception k v ec s = .ok a t) :
    t.exc.Idle := by
  induction k generalizing v ec s with
  | zero => cases e
  | succ k ih =>
    obtain ⟨-, ⟨-, s', double⟩ | ⟨push, ec', s', -, delivery⟩⟩ := exception_succ_eq_ok e
    · exact ih double
    · cases run : deliver v 3#3 push ec' s' with
      | ok u s'' =>
        obtain ⟨inEvent, ext, -⟩ := (deliver_settles v 3#3 push ec').ok run
        rw [run_onRaise_ok run] at delivery
        cases delivery
        exact ⟨inEvent, ext, rfl⟩
      | error x s'' =>
        cases x with
        | raise w ec'' =>
          rw [run_onRaise_raise run] at delivery
          exact ih delivery
        | done | refuse | depth => simp [onRaise, run] at delivery

theorem idle_of_exception_next {k : Nat} {v : Vector8} {ec : Half} (e : outcomeOf (exception k v ec s) = .next t) :
    ∃ (a : Answer) (s' : State), t = s'.respond a ∧ (¬a.Unfinished → s'.exc.Idle) := by
  cases run : exception k v ec s with
  | ok a s' =>
    rw [run] at e
    cases e
    exact ⟨a, s', rfl, fun _ => idle_of_exception_ok run⟩
  | error x s' =>
    rw [run] at e
    cases x with
    | done a =>
      cases e
      exact ⟨a, s', rfl, (leavesIdle_exceptionSteps.exception k v ec).error run a rfl⟩
    | raise | refuse | depth => cases e

/-! ### What leaves the three as they were -/

/-- No delivery is in progress after if none was before. -/
def keepsIdle (s s' : State) : Prop := s.exc.Idle → s'.exc.Idle

/-- As `leavesIdle`, if no delivery was in progress before. -/
def exitsIdle (s s' : State) (x : Stop) : Prop := s.exc.Idle → leavesIdle s s' x

/-- The command keeps the exception state at rest, unless it leaves its rule with an exception or an unfinished answer. -/
def KeepsIdle (m : M α) : Prop := Spec keepsIdle exitsIdle m

theorem keepsIdle_chain : Chain keepsIdle exitsIdle where
  refl _ h := h
  trans h1 h2 h := h2 (h1 h)
  pre h1 h2 h := h2 (h1 h)

namespace KeepsIdle

/-! The constructs of a rule (R7). -/

theorem andThen {m : M α} {f : α → M β} (hm : KeepsIdle m) (hf : ∀ a, KeepsIdle (f a)) : KeepsIdle (m >>= f) :=
  Spec.bind keepsIdle_chain hm hf

theorem reading {f : State → M β} (hf : ∀ s, KeepsIdle (f s)) : KeepsIdle (get >>= f) :=
  Spec.bind keepsIdle_chain (Spec.get keepsIdle_chain) hf

theorem skip (a : α) : KeepsIdle (pure a : M α) := Spec.pure keepsIdle_chain a

theorem when {c : Prop} [Decidable c] {m : M Unit} (hm : KeepsIdle m) : KeepsIdle (if c then m else pure ()) :=
  Spec.ite (fun _ => hm) fun _ => skip ()

/-- A write to another field, or to another part of the exception state. -/
theorem write (f : State → State) (hf : ∀ s, keepsIdle s (f s) := by exact fun _ h => h) : KeepsIdle (modify f) :=
  Spec.modify hf

theorem raise (v : Vector8) (ec : Half) : KeepsIdle (raise v ec : M α) := fun _ _ => nofun

theorem raiseIf (c : Bool) (v : Vector8) (ec : Half) : KeepsIdle (raiseIf c v ec) := when (raise v ec)

theorem finish (a : Answer) : KeepsIdle (finish a : M α) := fun _ h => leavesIdle_of_idle h _

theorem abort (r : AbortReason) : KeepsIdle (abort r : M α) :=
  fun _ _ => leavesIdle_of_unfinished Answer.unfinished_abort

theorem abortIf (c : Bool) (r : AbortReason) : KeepsIdle (abortIf c r) := when (abort r)

theorem emit (e : Event) : KeepsIdle (emit e) := write _

theorem emitIf (c : Bool) (e : Event) : KeepsIdle (emitIf c e) := when (emit e)

theorem emitMode : KeepsIdle emitMode := reading fun _ => emit _

theorem modifyRegs (f : ControlRegs → ControlRegs) : KeepsIdle (modifyRegs f) := write _

theorem modifyCtx (f : Context → Context) : KeepsIdle (modifyCtx f) := write _

theorem modifySched (f : Sched → Sched) : KeepsIdle (modifySched f) := write _

/-! ### The memory port: reads (R72, R74) -/

theorem portAccess (a : Word) : KeepsIdle (portAccess a) :=
  andThen (fun _ h => h) fun
    | none => skip _
    | some _ => (modifyRegs _).andThen fun _ => raise _ _

theorem memRead (a : Word) (n : Nat) (acc : Acc) : KeepsIdle (memRead a n acc) :=
  (emit _).andThen fun _ => (portAccess a).andThen fun _ => reading fun _ => skip _

theorem physRead (a : Word) : KeepsIdle (physRead a) := (emit _).andThen fun _ => reading fun _ => skip _

/-! ### The intercept layer and the privilege check (R130, R153, R205 to R212) -/

/-- A VM exit applies the three resets of R212 itself (log entry 15). -/
theorem vmExit (x : ExitInfo) : KeepsIdle (vmExit x : M α) := fun _ _ => leavesIdle_of_idle ⟨rfl, rfl, rfl⟩ _

theorem obeyPlain : ∀ a : Option ExitInfo, KeepsIdle (obeyPlain a)
  | none => skip _
  | some x => vmExit x

theorem askPlain (q : PlainQuery) : KeepsIdle (askPlain q) := reading fun _ => obeyPlain _

theorem askExc (v : Vector8) (ec : Half) (p : Bool) (type : BitVec 3) : KeepsIdle (askExc v ec p type) :=
  reading fun _ => obeyPlain _

theorem obeyWrite : ∀ a : RegAnswer, KeepsIdle (obeyWrite a)
  | .pass => skip _
  | .exit x => vmExit x
  | .handled _ _ => finish _

theorem obeyRead (cur : Word) : ∀ a : RegAnswer, KeepsIdle (obeyRead a cur)
  | .pass => skip _
  | .exit x => vmExit x
  | .handled _ _ => skip _

theorem requireCpl0 : KeepsIdle requireCpl0 := reading fun _ => raiseIf _ _ _

/-- A write that the layer may decide (R130): what it does past the layer's answer. -/
theorem privileged {q : State → RegAnswer} {f : State → Unit → M β} (hf : ∀ s, KeepsIdle (f s ())) :
    KeepsIdle (Machine.requireCpl0 >>= fun _ => get >>= fun s => Machine.obeyWrite (q s) >>= f s) :=
  requireCpl0.andThen fun _ => reading fun s => (obeyWrite _).andThen fun _ => hf s

/-! ### The control registers (R131 to R153) -/

theorem readPdptes (base : Word) (left k : Nat) : KeepsIdle (readPdptes base left k) := by
  induction left generalizing k with
  | zero => exact skip _
  | succ left ih =>
    exact (physRead _).andThen fun _ => reading fun _ =>
      Spec.ite (fun _ => skip _) fun _ => (ih _).andThen fun _ => skip _

theorem loadPdptes (es : Option (List Word)) : KeepsIdle (loadPdptes es) := by
  unfold Machine.loadPdptes
  split
  · exact emit _
  · exact raise _ _

theorem pdptesIf (b : Bool) (c : Word) : KeepsIdle (pdptesIf b c) :=
  when ((readPdptes _ _ _).andThen fun _ => loadPdptes _)

theorem longEntry : KeepsIdle longEntry :=
  reading fun _ => when <| (raiseIf _ _ _).andThen fun _ => (raiseIf _ _ _).andThen fun _ =>
    (raiseIf _ _ _).andThen fun _ => modifyRegs _

theorem longExit : KeepsIdle longExit :=
  reading fun _ => (raiseIf _ _ _).andThen fun _ => when <| (raiseIf _ _ _).andThen fun _ => modifyRegs _

theorem pgTransition (old new : Bool) : KeepsIdle (pgTransition old new) :=
  Spec.ite (fun _ => longEntry) fun _ => when longExit

theorem wrcr0 (v : Word) : KeepsIdle (wrcr0 v) :=
  privileged fun _ => (raiseIf _ _ _).andThen fun _ => (pgTransition _ _).andThen fun _ =>
    (reading fun _ => pdptesIf _ _).andThen fun _ => (modifyRegs _).andThen fun _ =>
    ((emitIf _ _).andThen fun _ => emitMode).andThen fun _ => skip _

theorem wrcr2 (v : Word) : KeepsIdle (wrcr2 v) := privileged fun _ => (modifyRegs _).andThen fun _ => skip _

theorem wrcr3 (v : Word) : KeepsIdle (wrcr3 v) :=
  privileged fun _ => (reading fun _ => Spec.ite (fun _ => raiseIf _ _ _) fun _ => abortIf _ _).andThen fun _ =>
    (pdptesIf _ _).andThen fun _ => (modifyRegs _).andThen fun _ => (reading fun _ => emitIf _ _).andThen fun _ => skip _

theorem wrcr4 (v : Word) : KeepsIdle (wrcr4 v) :=
  privileged fun _ => (raiseIf _ _ _).andThen fun _ => (pdptesIf _ _).andThen fun _ => (modifyRegs _).andThen fun _ =>
    (emitIf _ _).andThen fun _ => emitMode.andThen fun _ => skip _

theorem setVmxVTpr (set : Bool) : KeepsIdle (modify (setVmxVTpr set)) := by
  refine write _ fun s => ?_
  unfold Machine.setVmxVTpr
  split <;> exact fun h => h

theorem obeyCr8Write : ∀ a : RegAnswer, KeepsIdle (obeyCr8Write a)
  | .pass => skip _
  | .exit x => vmExit x
  | .handled _ set => (setVmxVTpr set).andThen fun _ => finish _

theorem wrcr8 (v : Word) : KeepsIdle (wrcr8 v) :=
  reading fun _ => (raiseIf _ _ _).andThen fun _ => requireCpl0.andThen fun _ => (obeyCr8Write _).andThen fun _ =>
    (raiseIf _ _ _).andThen fun _ => andThen
      (reading fun _ => Spec.ite (fun _ => (write _).andThen fun _ => emit _) fun _ => (write _).andThen fun _ => emit _)
      fun _ => skip _

theorem rdcr (n : CrNum) : KeepsIdle (rdcr n) := requireCpl0.andThen fun _ => reading fun _ => obeyRead _ _

theorem rdcr8 : KeepsIdle rdcr8 := reading fun _ => (raiseIf _ _ _).andThen fun _ => rdcr _

/-! ### The debug registers (R173 to R179) -/

theorem drAccess (n : DrNum) (dir : Dir) : KeepsIdle (drAccess n dir) :=
  (reading fun _ => when <| (modifySched _).andThen fun _ => raise _ _).andThen fun _ =>
    requireCpl0.andThen fun _ => askPlain _

theorem requireAlias : KeepsIdle requireAlias := reading fun _ => raiseIf _ _ _

theorem wrdrAddr (n : DrNum) (v : Word) : KeepsIdle (wrdrAddr n v) :=
  (drAccess _ _).andThen fun _ => reading fun _ => (raiseIf _ _ _).andThen fun _ => (modifyRegs _).andThen fun _ =>
    skip _

theorem wrdrStatus (v : Word) : KeepsIdle (wrdrStatus v) :=
  (drAccess _ _).andThen fun _ => (raiseIf _ _ _).andThen fun _ => (write _).andThen fun _ => skip _

theorem wrdrControl (v : Word) : KeepsIdle (wrdrControl v) :=
  (drAccess _ _).andThen fun _ => (raiseIf _ _ _).andThen fun _ => (write _).andThen fun _ => skip _

theorem rddr (n : DrNum) : KeepsIdle (rddr n) := (drAccess _ _).andThen fun _ => reading fun _ => skip _

/-! ### EFER, XCR0 and IA32_XSS (R160 to R171) -/

theorem wrefer (v : Word) : KeepsIdle (wrefer v) :=
  privileged fun _ => (raiseIf _ _ _).andThen fun _ => (raiseIf _ _ _).andThen fun _ => (modifyRegs _).andThen fun _ =>
    skip _

theorem rdefer : KeepsIdle rdefer := requireCpl0.andThen fun _ => reading fun _ => obeyRead _ _

theorem requireOsxsave : KeepsIdle requireOsxsave := reading fun _ => raiseIf _ _ _

theorem wrxcr (k : BitVec 8) (v : Word) : KeepsIdle (wrxcr k v) :=
  requireOsxsave.andThen fun _ => privileged fun _ => (raiseIf _ _ _).andThen fun _ => (raiseIf _ _ _).andThen fun _ =>
    (modifyRegs _).andThen fun _ => emitMode.andThen fun _ => skip _

theorem rdxcr (k : BitVec 8) : KeepsIdle (rdxcr k) :=
  requireOsxsave.andThen fun _ => (raiseIf _ _ _).andThen fun _ => reading fun _ => skip _

theorem wrxss (v : Word) : KeepsIdle (wrxss v) :=
  privileged fun _ => (raiseIf _ _ _).andThen fun _ => (raiseIf _ _ _).andThen fun _ => (modifyRegs _).andThen fun _ =>
    skip _

theorem rdxss : KeepsIdle rdxss :=
  requireCpl0.andThen fun _ => reading fun _ => (raiseIf _ _ _).andThen fun _ => obeyRead _ _

/-! ### The I/O permission check (R190 to R200) -/

theorem bitmapGrants (port : Half) (width : BitVec 8) : KeepsIdle (bitmapGrants port width) :=
  reading fun _ => Spec.ite (fun _ => skip _) fun _ => Spec.ite
    (fun _ => reading fun _ => (memRead _ _ _).andThen fun _ => Spec.ite (fun _ => skip _) fun _ =>
      (memRead _ _ _).andThen fun _ => skip _)
    fun _ => skip _

theorem chkio (width : BitVec 8) (out rep : Bool) (port : Half) : KeepsIdle (chkio width out rep port) :=
  (abortIf _ _).andThen fun _ => (bitmapGrants _ _).andThen fun _ =>
    andThen (Spec.ite (fun _ => skip _) fun _ => finish _) fun _ =>
    (askPlain _).andThen fun _ => (write _).andThen fun _ => skip _

/-! ### The scheduler's feeders (R245 to R249) -/

theorem signal (e : BitVec 4) (level : Bool) : KeepsIdle (signal e level) :=
  (abortIf _ _).andThen fun _ => (modifySched _).andThen fun _ => skip _

theorem evmask (e : BitVec 4) (mask : Bool) : KeepsIdle (evmask e mask) := (modifySched _).andThen fun _ => skip _

theorem inhibit (m : BitVec 2) : KeepsIdle (inhibit m) := (modifySched _).andThen fun _ => skip _

theorem dbgtrap (b : Half) : KeepsIdle (dbgtrap b) :=
  (abortIf _ _).andThen fun _ => (modifySched _).andThen fun _ => skip _

theorem activity (code : BitVec 3) : KeepsIdle (activity code) := by
  unfold Machine.activity
  cases activityOf code with
  | none => exact abort _
  | some a => exact (modifySched _).andThen fun _ => (modifyCtx _).andThen fun _ => skip _

/-! ### Exceptions, interrupts and snapshots (R260, R276 to R278, R290) -/

/-- A delivery that starts with no exception unresolved comes to rest, whatever `in_event` and EXT were. -/
theorem of_restores {m : M α} (hm : Spec restoresIdle leavesUnfinished m) : KeepsIdle m := by
  intro s
  cases run : m s with
  | ok a t => exact fun ⟨_, _, benign⟩ => hm.ok run benign
  | error x t => exact fun _ a hx finished => absurd (hm.error run a hx) finished

theorem deliver (v : Vector8) (type : BitVec 3) (p : Bool) (ec : Half) : KeepsIdle (deliver v type p ec) :=
  of_restores (deliver_restores v type p ec)

theorem raiseCommand (v : Vector8) (ec : Half) (addr : Word) : KeepsIdle (raiseCommand v ec addr) :=
  (when (modifyRegs _)).andThen fun _ => raise _ _

theorem intCommand (v : Vector8) (type : BitVec 3) (p : Bool) (ec : Half) : KeepsIdle (intCommand v type p ec) :=
  (abortIf _ _).andThen fun _ => (when (askExc _ _ _ _)).andThen fun _ => reading fun _ =>
    (deliver _ _ _ _).andThen fun _ => skip _

theorem instrStart : KeepsIdle instrStart := (write _).andThen fun _ => skip _

theorem specRsp : KeepsIdle specRsp := (write _).andThen fun _ => skip _

theorem commitRsp : KeepsIdle commitRsp := (write _).andThen fun _ => skip _

/-! ### The steps of `BOUNDARY` before the interrupts (R222 to R237) -/

theorem clearPending (e : Nat) : KeepsIdle (clearPending e) := modifySched _

theorem stepKill : KeepsIdle stepKill := reading fun _ => when (finish _)

theorem haltedFirst : KeepsIdle haltedFirst :=
  reading fun _ => when <| stepKill.andThen fun _ => reading fun _ =>
    Spec.ite (fun _ => modifySched _) fun _ => finish _

theorem stepTaskTrap : KeepsIdle stepTaskTrap := reading fun _ => raiseIf _ _ _

theorem apicTrap (e : Nat) : KeepsIdle (apicTrap e) :=
  reading fun _ => when <| (clearPending _).andThen fun _ => obeyPlain _

theorem stepApic : KeepsIdle stepApic :=
  (apicTrap _).andThen fun _ => (apicTrap _).andThen fun _ => apicTrap _

theorem stepSmi : KeepsIdle stepSmi :=
  reading fun _ => when <| (clearPending _).andThen fun _ => (askPlain _).andThen fun _ => (emit _).andThen fun _ =>
    finish _

theorem stepInit : KeepsIdle stepInit :=
  reading fun _ => when <| (clearPending _).andThen fun _ => (askPlain _).andThen fun _ =>
    (write resetState fun _ _ => ⟨rfl, rfl, rfl⟩).andThen fun _ => (emit _).andThen fun _ => finish _

theorem stepMtf : KeepsIdle stepMtf := reading fun _ => when <| (clearPending _).andThen fun _ => vmExit _

theorem stepDebug : KeepsIdle stepDebug := reading fun _ => Spec.ite (fun _ => modifySched _) fun _ => raiseIf _ _ _

/-! ### Step 6 and the end of the pass (R238 to R244, R251, R252) -/

/-- An interrupt that sets EXT goes on to its delivery. -/
theorem externally (v : Vector8) (type : BitVec 3) : KeepsIdle (setExt >>= fun _ => deliverAsync v type) :=
  of_restores (setExt_deliverAsync_restores v type)

theorem takeNmi : KeepsIdle takeNmi := (modifySched _).andThen fun _ => (askPlain _).andThen fun _ => externally _ _

theorem takeExternal (v : Vector8) : KeepsIdle (takeExternal v) :=
  (emit _).andThen fun _ => (askPlain _).andThen fun _ => externally _ _

theorem takeVirtual : KeepsIdle takeVirtual := (clearPending _).andThen fun _ => reading fun _ => externally _ _

theorem takeLapic : KeepsIdle takeLapic := (clearPending _).andThen fun _ => reading fun _ => takeExternal _

theorem takePic : KeepsIdle takePic := (clearPending _).andThen fun _ => reading fun _ => takeExternal _

theorem takeMaskable : KeepsIdle takeMaskable :=
  reading fun _ => Spec.ite (fun _ => takeVirtual) fun _ => Spec.ite (fun _ => takeLapic) fun _ => takePic

theorem takeSvmVirq : KeepsIdle takeSvmVirq :=
  (clearPending _).andThen fun _ => reading fun _ => (emit _).andThen fun _ => (askPlain _).andThen fun _ =>
    of_restores (deliverAsync_restores _ _)

theorem takeDma : KeepsIdle takeDma := (clearPending _).andThen fun _ => (emit _).andThen fun _ => skip _

theorem takePreempt : KeepsIdle takePreempt := (clearPending _).andThen fun _ => vmExit _

theorem stepInterrupts : KeepsIdle stepInterrupts :=
  reading fun _ => Spec.ite (fun _ => skip _) fun _ => Spec.ite (fun _ => takePreempt) fun _ =>
    Spec.ite (fun _ => vmExit _) fun _ => Spec.ite (fun _ => takeNmi) fun _ => Spec.ite (fun _ => vmExit _) fun _ =>
    Spec.ite (fun _ => takeMaskable) fun _ => Spec.ite (fun _ => takeSvmVirq) fun _ =>
    Spec.ite (fun _ => takeDma) fun _ => skip _

theorem armSingleStep : KeepsIdle (modify armSingleStep) := by
  refine write _ fun s => ?_
  unfold Machine.armSingleStep
  split <;> exact fun h => h

theorem boundary : KeepsIdle boundary :=
  haltedFirst.andThen fun _ => stepKill.andThen fun _ => stepTaskTrap.andThen fun _ => stepApic.andThen fun _ =>
    stepSmi.andThen fun _ => stepInit.andThen fun _ => stepMtf.andThen fun _ => stepDebug.andThen fun _ =>
    stepInterrupts.andThen fun _ => armSingleStep.andThen fun _ => (write endPass).andThen fun _ => skip _

end KeepsIdle

/-! ### Every row -/

theorem body_keepsIdle (i : Instr) : KeepsIdle (body i) := by
  cases i with
  | wrcr0 v => exact .wrcr0 v
  | wrcr2 v => exact .wrcr2 v
  | wrcr3 v => exact .wrcr3 v
  | wrcr4 v => exact .wrcr4 v
  | wrcr8 v => exact .wrcr8 v
  | wrcr1Ud | wrcr5Ud | wrcr6_7Ud _ | wrcr9Ud | wrcr10_11Ud _ | wrcr12_15Ud _ => exact .raise _ _
  | rdcr0 | rdcr2 | rdcr3 | rdcr4 => exact .rdcr _
  | rdcr8 => exact .rdcr8
  | rdcr1Ud | rdcr5Ud | rdcr6_7Ud _ | rdcr9Ud | rdcr10_11Ud _ | rdcr12_15Ud _ => exact .raise _ _
  | wrdr0 v | wrdr1 v | wrdr2 v | wrdr3 v => exact .wrdrAddr _ v
  | wrdr4 v => exact .andThen .requireAlias fun _ => .wrdrStatus v
  | wrdr5 v => exact .andThen .requireAlias fun _ => .wrdrControl v
  | wrdr6 v => exact .wrdrStatus v
  | wrdr7 v => exact .wrdrControl v
  | rddr0 | rddr1 | rddr2 | rddr3 | rddr6 | rddr7 => exact .rddr _
  | rddr4 | rddr5 => exact .andThen .requireAlias fun _ => .rddr _
  | wrdr8_15Ud _ | rddr8_15Ud _ => exact .raise _ _
  | wrefer v => exact .wrefer v
  | rdefer => exact .rdefer
  | wrxcr k v => exact .wrxcr k v
  | rdxcr k => exact .rdxcr k
  | wrxss v => exact .wrxss v
  | rdxss => exact .rdxss
  | chkio width out rep port => exact .chkio width out rep port
  | boundary => exact .boundary
  | inhibit m => exact .inhibit m
  | signal e level => exact .signal e level
  | evmask e mask => exact .evmask e mask
  | dbgtrap b => exact .dbgtrap b
  | activity a => exact .activity a
  | raise v ec addr => exact .raiseCommand v ec addr
  | int v type pushError ec => exact .intCommand v type pushError ec
  | instrStart => exact .instrStart
  | specRsp => exact .specRsp
  | commitRsp => exact .commitRsp

/-- Whatever a command answers, it leaves no delivery in progress unless the answer is unfinished. -/
theorem exec_keepsIdle {i : Instr} (idle : s.exc.Idle) (e : exec i s = .next t) :
    ∃ (a : Answer) (s' : State), t = s'.respond a ∧ (¬a.Unfinished → s'.exc.Idle) := by
  cases live : s.aborted with
  | true =>
    rw [exec_aborted i live] at e
    cases e
    exact ⟨.abort, s, rfl, fun _ => idle⟩
  | false =>
    rw [exec_eq_runCommand] at e
    have rule := body_keepsIdle i
    cases run : body i s with
    | ok a s' =>
      rw [runCommand_ok live run] at e
      cases e
      exact ⟨a, s', rfl, fun _ => rule.ok run idle⟩
    | error x s' =>
      cases x with
      | done a =>
        rw [runCommand_done live run] at e
        cases e
        exact ⟨a, s', rfl, rule.error run idle a rfl⟩
      | raise v ec =>
        rw [runCommand_raise live run] at e
        exact idle_of_exception_next e
      | refuse | depth => simp [runCommand, live, onRaise, run] at e

/-- Settles O12: a finished answer comes from a rule that kept the exception state at rest, or from an exception that was
delivered or left by an exit that resets it. -/
theorem noDeliveryBetweenCommands : Obligations.NoDeliveryBetweenCommands := by
  intro i s t idle e notTaskSw notAbort
  obtain ⟨a, s', rfl, atRest⟩ := exec_keepsIdle idle e
  rw [State.kind_respond] at notTaskSw notAbort
  exact atRest (not_or.mpr ⟨notTaskSw, notAbort⟩)

end Sys2Proof.Machine
end

section
/-! SUPPORT. The tests of a long-mode delivery (R356 to R368), each where it is the first to fail. As for the legacy routines,
each stage past the first has a name, and a lemma that says the routine comes to it where the tests before it pass. -/

namespace Sys2Proof.Machine

variable {α : Type} {s t u : State} {v w : Vector8} {type : BitVec 3} {soft push : Bool} {ec e : Half} {x : Stop}

/-! ### What the accesses of a long-mode delivery leave alone -/

@[simp] theorem longGateRead_ctx (s : State) (v : Vector8) : (longGateRead s v).ctx = s.ctx := rfl
@[simp] theorem longGateRead_mem (s : State) (v : Vector8) : (longGateRead s v).mem = s.mem := rfl
@[simp] theorem longGateRead_aborted (s : State) (v : Vector8) : (longGateRead s v).aborted = s.aborted := rfl

@[simp] theorem longCodeRead_ctx (s : State) (v : Vector8) : (longCodeRead s v).ctx = s.ctx := by simp [longCodeRead]
@[simp] theorem longCodeRead_mem (s : State) (v : Vector8) : (longCodeRead s v).mem = s.mem := by simp [longCodeRead]
@[simp] theorem longCodeRead_aborted (s : State) (v : Vector8) : (longCodeRead s v).aborted = s.aborted := by
  simp [longCodeRead]

@[simp] theorem longStackRead_aborted (s : State) (v : Vector8) : (longStackRead s v).aborted = s.aborted := by
  simp [longStackRead]

theorem portOk_longGateRead (h : s.portOk) : (longGateRead s v).portOk :=
  State.portOk.accessed (s := longStartState s) h _

theorem portOk_longCodeRead (h : s.portOk) : (longCodeRead s v).portOk := (portOk_longGateRead h).accessed _

theorem portOk_longStackRead (h : s.portOk) : (longStackRead s v).portOk := (portOk_longCodeRead h).accessed _

/-! ### `INT` where its long-mode delivery stops (R290, R292) -/

theorem run_deliver_long_stops (lma : s.regs.lma = true)
    (stops : longModeInt v (isSoft type) push ec (longStartState s) = .error x t) :
    deliver v type push ec s = .error x t := by
  have routine : modeInt v (isSoft type) push ec (longStartState s) = .error x t := by
    refine (run_bind_ok (run_get _)).trans ?_
    rw [show (longStartState s).regs.lma = true from lma]
    exact stops
  refine (run_bind_ok (run_modifySched _ s)).trans ((run_bind_ok (run_modifyExc _ _)).trans ?_)
  exact run_bind_error routine

theorem run_intCommand_long_stops (h : IntEnters s v type push ec) (lma : s.regs.lma = true)
    (stops : longModeInt v (softType type) push ec (longStartState s) = .error x t) :
    intCommand v type push ec s = .error x t := by
  have mode := mode_ne_real_of_lma lma
  refine (run_intCommand h).trans (run_bind_error (run_deliver_long_stops lma ?_))
  rw [decide_eq_true mode, Bool.and_true, if_neg mode]
  exact stops

/-! ### The gate (R356, R357, R359 to R361) -/

/-- The routine of a long-mode delivery of `v` at level `cpl`, through the gate `g` whose second half is `high`. -/
def longGateStages (v : Vector8) (soft push : Bool) (ec : Half) (high : Word) (g : Gate) (cpl : BitVec 2) : M Unit := do
  raiseIf (high.extractLsb' 40 5 != 0#5) 13#8 (gateCode v)
  raiseIf (g.s || !(g.type == 14#4 || g.type == 15#4)) 13#8 (gateCode v)
  raiseIf (soft && decide (g.dpl < cpl)) 13#8 (gateCode v)
  raiseIf (!g.p) 11#8 (gateCode v)
  longGate g push ec

theorem run_longModeInt_beyond (noCet : s.cfg.cetSupported = false)
    (beyond : s.ctx.idtr.limit.toNat < 16 * v.toNat + 15) :
    longModeInt v soft push ec (longStartState s) = .error (.raise 13#8 (gateCode v)) (longStartState s) := by
  refine (run_bind_ok (cetGuard_ok (s := longStartState s) noCet)).trans ((run_bind_ok (run_get _)).trans ?_)
  rw [idtCode_eq_gateCode]
  exact run_test_fails (decide_eq_true beyond)

theorem run_longModeInt_reached (h : LongGateReached s v) :
    longModeInt v soft push ec (longStartState s)
      = longGateStages v soft push ec (longHigh s v) (longGateOf s v) s.ctx.cpl (longGateRead s v) := by
  have port : (longStartState s).portOk := h.port
  refine (run_bind_ok (cetGuard_ok (s := longStartState s) h.noCet)).trans ((run_bind_ok (run_get _)).trans ?_)
  refine (run_test_pass (decide_lt_false h.idt)).trans ?_
  rw [shl4, idtCode_eq_gateCode]
  refine (run_bind_ok (run_memRead_ok port _ _ _)).trans ?_
  refine (run_bind_ok (run_memRead_ok (port.accessed _) _ _ _)).trans ?_
  rw [State.accessed_accessed]
  rfl

theorem longTypeTest_eq_false_iff (s : State) (v : Vector8) :
    ((longGateOf s v).s || !((longGateOf s v).type == 14#4 || (longGateOf s v).type == 15#4)) = false
      ↔ longGateType s v := by
  simp only [longGateType, Bool.or_eq_false_iff, Bool.not_eq_false', Bool.or_eq_true, beq_iff_eq]

theorem run_longGateStages_highBits {high : Word} {g : Gate} {cpl : BitVec 2} (bad : high.extractLsb' 40 5 ≠ 0#5) :
    longGateStages v soft push ec high g cpl t = .error (.raise 13#8 (gateCode v)) t :=
  run_test_fails (bne_iff_ne.mpr bad)

theorem run_longGateStages_badType {high : Word} {cpl : BitVec 2} (clear : high.extractLsb' 40 5 = 0#5)
    (bad : ¬longGateType s v) :
    longGateStages v soft push ec high (longGateOf s v) cpl t = .error (.raise 13#8 (gateCode v)) t :=
  (run_test_pass (by simpa using clear)).trans
    (run_test_fails (Bool.eq_true_of_not_eq_false (mt (longTypeTest_eq_false_iff s v).mp bad)))

/-- Past the tests of the bits that have one value, the privilege test comes next. -/
theorem run_longGateStages_typed {high : Word} {cpl : BitVec 2} (clear : high.extractLsb' 40 5 = 0#5)
    (ok : longGateType s v) :
    longGateStages v soft push ec high (longGateOf s v) cpl t
      = (raiseIf (soft && decide ((longGateOf s v).dpl < cpl)) 13#8 (gateCode v) >>= fun _ =>
          raiseIf (!(longGateOf s v).p) 11#8 (gateCode v) >>= fun _ => longGate (longGateOf s v) push ec) t :=
  (run_test_pass (by simpa using clear)).trans (run_test_pass ((longTypeTest_eq_false_iff s v).mpr ok))

theorem run_longGateStages_lowDpl {high : Word} {cpl : BitVec 2} (clear : high.extractLsb' 40 5 = 0#5)
    (ok : longGateType s v) (software : soft = true) (low : (longGateOf s v).dpl < cpl) :
    longGateStages v soft push ec high (longGateOf s v) cpl t = .error (.raise 13#8 (gateCode v)) t :=
  (run_longGateStages_typed clear ok).trans (run_test_fails (by simp [software, low]))

theorem run_longGateStages_absent {high : Word} {cpl : BitVec 2} (clear : high.extractLsb' 40 5 = 0#5)
    (ok : longGateType s v) (dpl : soft = true → cpl ≤ (longGateOf s v).dpl) (absent : (longGateOf s v).p = false) :
    longGateStages v soft push ec high (longGateOf s v) cpl t = .error (.raise 11#8 (gateCode v)) t :=
  (run_longGateStages_typed clear ok).trans
    ((run_test_pass (soft_lt_false dpl)).trans (run_test_fails (by rw [absent]; rfl)))

/-- Past the tests of the gate the routine is the transfer through it (R355). -/
theorem run_longModeInt_passed (h : LongGatePassed s v soft) :
    longModeInt v soft push ec (longStartState s) = longGate (longGateOf s v) push ec (longGateRead s v) := by
  refine (run_longModeInt_reached h.toLongGateReached).trans ?_
  refine (run_longGateStages_typed h.high ⟨h.system, h.type⟩).trans ((run_test_pass (soft_lt_false h.dpl)).trans ?_)
  exact run_test_pass (by rw [h.present]; rfl)

/-! ### The code segment (R323, R362) -/

/-- A transfer through the gate `g` from the context `c'`, once the code segment `c` passed its tests: the stack, the frame
and the offset (R364 to R369). -/
def longStackStages (g : Gate) (push : Bool) (ec : Half) (c : Desc) (inner : Bool) (pl : BitVec 2) (c' : Context) :
    M Unit := do
  let top ← longStack g.ist inner pl
  let t ← pushLong pl (longFrame c' push ec) (clearBits top 0xF#64)
  raiseIf (!canonical g.offset) 13#8 0#16
  loadCs g.selector c pl
  modifyCtx (longEnter g inner pl t)

/-- The transfer through the gate `g`, once the descriptor `c` of its code segment is read. -/
def longCodeStages (g : Gate) (push : Bool) (ec : Half) (c : Desc) : M Unit := do
  let s ← get
  raiseIf (!c.isCode || decide (s.ctx.cpl < c.dpl)) 13#8 (selCode g.selector)
  raiseIf (!c.l || c.db) 13#8 (selCode g.selector)
  raiseIf (!c.p) 11#8 (selCode g.selector)
  longStackStages g push ec c (isInner c s.ctx.cpl) (if isInner c s.ctx.cpl then c.dpl else s.ctx.cpl) s.ctx

theorem run_longModeInt_fetched (h : LongGatePassed s v soft) (notNull : selCode (longGateOf s v).selector ≠ 0#16)
    (inTable : descInTable s.ctx (longGateOf s v).selector) :
    longModeInt v soft push ec (longStartState s)
      = longCodeStages (longGateOf s v) push ec (longCodeOf s v) (longCodeRead s v) := by
  refine (run_longModeInt_passed h).trans ((run_test_pass (beq_eq_false_iff_ne.mpr notNull)).trans ?_)
  exact run_bind_ok (run_fetchDesc_ok _ (portOk_longGateRead h.port) inTable)

theorem codeTest_passes {c : Desc} {cpl : BitVec 2} (code : c.s = true ∧ c.type.getLsbD 3 = true) (dpl : c.dpl ≤ cpl) :
    (!c.isCode || decide (cpl < c.dpl)) = false := by
  rw [Desc.isCode, code.1, code.2]
  exact lt_false dpl

theorem code64Test_passes {c : Desc} (code64 : c.l = true ∧ c.db = false) : (!c.l || c.db) = false := by
  rw [code64.1, code64.2]
  rfl

theorem run_longCodeStages_bad {g : Gate} {c : Desc}
    (bad : c.s = false ∨ c.type.getLsbD 3 = false ∨ t.ctx.cpl < c.dpl ∨ c.l = false ∨ c.db = true) :
    longCodeStages g push ec c t = .error (.raise 13#8 (selCode g.selector)) t := by
  refine (run_bind_ok (run_get t)).trans ?_
  by_cases code : (!c.isCode || decide (t.ctx.cpl < c.dpl)) = true
  · exact run_test_fails code
  · refine (run_test_pass (Bool.eq_false_of_not_eq_true code)).trans (run_test_fails ?_)
    simp only [Desc.isCode, Bool.or_eq_true, Bool.not_eq_true', Bool.and_eq_false_iff, decide_eq_true_eq, not_or,
      Bool.not_eq_false] at code
    obtain ⟨⟨segment, executable⟩, dpl⟩ := code
    rw [segment, executable] at bad
    simpa [dpl] using bad

/-- Past the tests of the code segment the routine goes on with the stack. -/
theorem run_longModeInt_code (h : LongCodePassed s v soft) :
    longModeInt v soft push ec (longStartState s)
      = longStackStages (longGateOf s v) push ec (longCodeOf s v) (longInner s v) (longLevel s v) s.ctx
          (longCodeRead s v) := by
  refine (run_longModeInt_fetched h.toLongGatePassed h.notNull h.inTable).trans ?_
  refine (run_bind_ok (run_get _)).trans ((run_test_pass (codeTest_passes h.code h.codeDpl)).trans ?_)
  refine (run_test_pass (code64Test_passes h.code64)).trans ((run_test_pass (by rw [h.codePresent]; rfl)).trans ?_)
  rfl

/-! ### The stack in the TSS (R363, R364) -/

/-- Where the delivery takes a stack of the TSS, the choice of the stack is the read of it. -/
theorem run_longStack_tss {k : Nat} (index : longTssIndex s v = some k) :
    longStack (longGateOf s v).ist (longInner s v) (longLevel s v) t = tssRsp k t := by
  refine (run_bind_ok (run_get t)).trans ?_
  unfold longTssIndex at index
  by_cases ist : (longGateOf s v).ist = 0#3
  · cases inner : longInner s v with
    | false => simp [ist, inner] at index
    | true =>
      have level : longLevel s v = (longCodeOf s v).dpl := if_pos inner
      simp only [ist, inner] at index
      simp [ist, level, Option.some.inj index]
  · rw [if_pos ist] at index
    rw [if_pos (bne_iff_ne.mpr ist), Option.some.inj index]

theorem run_tssRsp_invalid {k : Nat} (invalid : t.ctx.tr.valid = false) :
    tssRsp k t = .error (.done .abort) (t.abortedBy .trInvalid) := by
  refine (run_bind_ok (run_get t)).trans ?_
  rw [invalid]
  exact run_bind_error (run_abortIf_true _ t)

theorem run_tssRsp_notTss {k : Nat} (valid : t.ctx.tr.valid = true) (bad : ¬tss32 t) :
    tssRsp k t = .error (.done .abort) (t.abortedBy .trType) := by
  have notTss : isTss32 t.ctx.tr.cache.type = false :=
    Bool.eq_false_of_not_eq_true (mt (isTss32_eq_true_iff _).mp bad)
  refine (run_bind_ok (run_get t)).trans ?_
  rw [valid, notTss]
  exact (run_bind_ok (run_abortIf_false _ t)).trans (run_bind_error (run_abortIf_true _ t))

theorem run_tssRsp_short {k : Nat} (valid : t.ctx.tr.valid = true) (type : tss32 t)
    (short : t.ctx.tr.cache.limit.toNat < 8 * k + 4 + 7) :
    tssRsp k t = .error (.raise 10#8 (selCode t.ctx.tr.sel)) t := by
  refine (run_bind_ok (run_get t)).trans ?_
  rw [valid, (isTss32_eq_true_iff _).mpr type]
  refine (run_bind_ok (run_abortIf_false _ t)).trans ((run_bind_ok (run_abortIf_false _ t)).trans ?_)
  exact run_test_fails (decide_eq_true short)

/-- Past the code segment the routine stops where the read of its stack in the TSS does. -/
theorem run_longModeInt_tss_stops {k : Nat} (h : LongCodePassed s v soft) (index : longTssIndex s v = some k)
    (stops : tssRsp k (longCodeRead s v) = .error x u) :
    longModeInt v soft push ec (longStartState s) = .error x u :=
  (run_longModeInt_code h).trans (run_bind_error ((run_longStack_tss index).trans stops))

/-! ### The frame (R365 to R368) -/

/-- The frame of a long-mode delivery to level `pl` from the aligned pointer `top`, and the test of the offset. -/
def longFrameStages (g : Gate) (push : Bool) (ec : Half) (c : Desc) (inner : Bool) (pl : BitVec 2) (c' : Context)
    (top : Word) : M Unit := do
  let t ← pushLong pl (longEntries c' push ec) top
  raiseIf (!canonical g.offset) 13#8 0#16
  loadCs g.selector c pl
  modifyCtx (longEnter g inner pl t)

theorem clearBits_longStart (s : State) (v : Vector8) : clearBits (longStart s v) 0xF#64 = longTop s v := by
  unfold longStart longTop clearBits
  cases longTssIndex s v <;> rfl

/-- Past the tests of the TSS the routine goes on with the frame. -/
theorem run_longModeInt_frame (h : LongTssPassed s v soft) :
    longModeInt v soft push ec (longStartState s)
      = longFrameStages (longGateOf s v) push ec (longCodeOf s v) (longInner s v) (longLevel s v) s.ctx (longTop s v)
          (longStackRead s v) := by
  have stack := run_longStack_ok (s := s) (portOk_longCodeRead h.port) (longCodeRead_ctx s v) (longCodeRead_mem s v) h.tss
  refine (run_longModeInt_code h.toLongCodePassed).trans ((run_bind_ok stack).trans ?_)
  rw [clearBits_longStart]
  rfl

theorem sub_slot (sp : Word) (k : Nat) : sp - BitVec.ofNat 64 (8 * k) - 8#64 = sp - BitVec.ofNat 64 (8 * (k + 1)) := by
  rw [Nat.mul_add, Nat.mul_one, BitVec.ofNat_add, BitVec.sub_sub]

theorem State.portOk.framed (h : s.portOk) (addr : Nat → Word) (n : Nat) (acc : Acc) (xs : List Word) (k : Nat) :
    (s.framed addr n acc xs k).portOk := h.accessed (frameHist addr n acc xs k)

/-- An entry of 8 bytes is stored whole. -/
theorem run_memWrite_slot (addr : Nat → Word) (k : Nat) (x : Word) (acc : Acc) (port : s.portOk) :
    memWrite (addr k) 8 x acc s = .ok () (s.framed addr 8 acc [x] k) := by
  rw [run_memWrite_ok port, State.framed, frameMem, frameMem, frameHist, frameHist, truncBytes_eight]

theorem run_pushLong_bad {pl : BitVec 2} (sp : Word) (xs : List Word) (j k : Nat) (s : State) (port : s.portOk)
    (inside : j < xs.length)
    (fits : ∀ i, k < i → i ≤ k + j → canonical (sp - BitVec.ofNat 64 (8 * i)) = true)
    (bad : canonical (sp - BitVec.ofNat 64 (8 * (k + j + 1))) = false) :
    pushLong pl xs (sp - BitVec.ofNat 64 (8 * k)) s
      = .error (.raise 12#8 0#16)
          (s.framed (fun i => sp - BitVec.ofNat 64 (8 * i)) 8 (.stack pl) (xs.take j) (k + 1)) := by
  induction xs generalizing j k s with
  | nil => exact absurd inside (by simp)
  | cons x xs ih =>
    unfold pushLong
    simp only [sub_slot]
    cases j with
    | zero =>
      rw [List.take_zero, State.framed_nil]
      exact run_test_fails (by rw [bad]; rfl)
    | succ j =>
      refine (run_test_pass (by rw [fits (k + 1) (by omega) (by omega)]; rfl)).trans ?_
      rw [List.take_succ_cons, State.framed_cons]
      refine (run_bind_ok (run_memWrite_slot (fun i => sp - BitVec.ofNat 64 (8 * i)) (k + 1) x (.stack pl) port)).trans ?_
      exact ih j (k + 1) _ (port.framed _ _ _ _ _) (Nat.lt_of_succ_lt_succ inside)
        (fun i first last => fits i (by omega) (by omega)) (by rwa [show k + 1 + j + 1 = k + (j + 1) + 1 by omega])

/-- The frame stops at the first slot that is not canonical, with the entries above it stored. -/
theorem run_longFrame_bad {j : Nat} {xs : List Word} (port : t.portOk) (inside : j < xs.length)
    (first : ∀ k, 1 ≤ k → k ≤ j → canonical (longSlot s v k) = true) (bad : canonical (longSlot s v (j + 1)) = false)
    (pl : BitVec 2) :
    pushLong pl xs (longTop s v) t
      = .error (.raise 12#8 0#16) (t.framed (longSlot s v) 8 (.stack pl) (xs.take j) 1) := by
  have run := run_pushLong_bad (pl := pl) (longTop s v) xs j 0 t port inside
    (fun i low high => first i low (by omega)) (by rw [Nat.zero_add]; exact bad)
  rwa [Nat.mul_zero, BitVec.sub_zero] at run

theorem run_longFrame_ok {xs : List Word} (port : t.portOk)
    (slots : ∀ k, 1 ≤ k → k ≤ xs.length → canonical (longSlot s v k) = true) (pl : BitVec 2) :
    pushLong pl xs (longTop s v) t
      = .ok (longSlot s v xs.length) (t.framed (longSlot s v) 8 (.stack pl) xs 1) := by
  have run := run_pushLong_ok (pl := pl) (longTop s v) xs 0 t port fun i low high => slots i low (by omega)
  rwa [Nat.mul_zero, BitVec.sub_zero, Nat.zero_add] at run

/-! ### Every later test (R362, R363, R366, R368) -/

/-- Each fault of a long-mode delivery past the gate is the first test that fails. -/
theorem LongFault.run (h : LongFault s v soft push ec w e u) :
    longModeInt v soft push ec (longStartState s) = .error (.raise w e) u := by
  cases h with
  | null passed null => exact (run_longModeInt_passed passed).trans (run_test_fails (beq_iff_eq.mpr null))
  | table passed notNull outside =>
    refine (run_longModeInt_passed passed).trans ((run_test_pass (beq_eq_false_iff_ne.mpr notNull)).trans ?_)
    exact run_bind_error (run_fetchDesc_outside (s := longGateRead s v) outside)
  | code passed notNull inTable bad =>
    exact (run_longModeInt_fetched passed notNull inTable).trans (run_longCodeStages_bad (by rwa [longCodeRead_ctx]))
  | absent passed notNull inTable code codeDpl code64 absent =>
    refine (run_longModeInt_fetched passed notNull inTable).trans ((run_bind_ok (run_get _)).trans ?_)
    refine (run_test_pass (codeTest_passes code codeDpl)).trans ((run_test_pass (code64Test_passes code64)).trans ?_)
    exact run_test_fails (by rw [absent]; rfl)
  | tss k passed index valid type short =>
    exact run_longModeInt_tss_stops passed index (run_tssRsp_short (t := longCodeRead s v) valid type short)
  | stack j passed inside first bad =>
    refine (run_longModeInt_frame passed).trans (run_bind_error ?_)
    exact run_longFrame_bad (portOk_longStackRead passed.port) inside first bad _
  | offset passed slots bad =>
    refine (run_longModeInt_frame passed).trans ?_
    refine (run_bind_ok (run_longFrame_ok (portOk_longStackRead passed.port) slots _)).trans ?_
    exact run_test_fails (by rw [bad]; rfl)

/-- A delivery that takes its stack from the TSS ends with an internal error where TR holds none (R363). -/
theorem LongAbort.run {r : AbortReason} (h : LongAbort s v soft r) :
    longModeInt v soft push ec (longStartState s) = .error (.done .abort) ((longCodeRead s v).abortedBy r) := by
  cases h with
  | trInvalid k passed index invalid =>
    exact run_longModeInt_tss_stops passed index (run_tssRsp_invalid (t := longCodeRead s v) invalid)
  | trType k passed index valid bad =>
    exact run_longModeInt_tss_stops passed index (run_tssRsp_notTss (t := longCodeRead s v) valid bad)

/-! ### `INT` where a test of its long-mode delivery fails -/

theorem exec_int_long_raises (h : IntEnters s v type push ec) (lma : s.regs.lma = true) (notPf : w ≠ 14#8)
    (live : u.aborted = s.aborted)
    (raises : longModeInt v (softType type) push ec (longStartState s) = .error (.raise w e) u) :
    exec (.int v type push ec) s = raisedIn w e u :=
  runCommand_eq_raisedIn h.live (live.trans h.live) notPf (run_intCommand_long_stops h lma raises)

theorem LongFault.exec_int (h : IntEnters s v type push ec) (fault : LongFault s v (softType type) push ec w e u) :
    exec (.int v type push ec) s = raisedIn w e u := by
  have run := fault.run
  cases fault with
  | null passed | table passed | code passed | absent passed | tss _ passed | stack _ passed | offset passed =>
    exact exec_int_long_raises h passed.lma (by decide) (by simp) run

theorem LongAbort.exec_int {r : AbortReason} (h : IntEnters s v type push ec) (bad : LongAbort s v (softType type) r) :
    exec (.int v type push ec) s = doneIn .abort ((longCodeRead s v).abortedBy r) := by
  have run := bad.run (push := push) (ec := ec)
  cases bad with
  | trInvalid _ passed | trType _ passed =>
    exact runCommand_eq_doneIn_of_done h.live (run_intCommand_long_stops h passed.lma run)

/-- Settles O57: each clause names the first test of the routine that fails, and the state the stages before it leave. -/
theorem longGateTests : Obligations.LongGateTests := by
  intro v type push ec s enters
  have raises (reached : LongGateReached s v) {w : Vector8} (notPf : w ≠ 14#8)
      (stops : longGateStages v (softType type) push ec (longHigh s v) (longGateOf s v) s.ctx.cpl (longGateRead s v)
        = .error (.raise w (gateCode v)) (longGateRead s v)) :
      exec (.int v type push ec) s = raisedIn w (gateCode v) (longGateRead s v) :=
    exec_int_long_raises enters reached.lma notPf rfl ((run_longModeInt_reached reached).trans stops)
  refine ⟨fun lma noCet beyond => ?_, fun reached => ⟨fun bad => ?_, fun clear ok software low => ?_,
    fun clear ok dpl absent => ?_⟩, fun w e u fault => fault.exec_int enters, fun r bad => bad.exec_int enters⟩
  · exact exec_int_long_raises enters lma (by decide) rfl (run_longModeInt_beyond noCet beyond)
  · refine raises reached (by decide) ?_
    by_cases clear : (longHigh s v).extractLsb' 40 5 = 0#5
    · exact run_longGateStages_badType clear (bad.resolve_left (not_not.mpr clear))
    · exact run_longGateStages_highBits clear
  · exact raises reached (by decide) (run_longGateStages_lowDpl clear ok software low)
  · exact raises reached (by decide) (run_longGateStages_absent clear ok dpl absent)

end Sys2Proof.Machine
end
